-- ==== Sys2Proof/Word.lean ====
section
/-! DEFINITION. The word types of the part's interfaces: bytes on a port, 32-bit words in the host
window, 48-bit addresses in frames. -/

namespace Sys2Proof

/-- A byte of a frame. -/
abbrev Byte := BitVec 8

/-- A word of the host window (R175, R190). -/
abbrev Word := BitVec 32

/-- A station or frame address (R44). Byte 0 on the wire is the most significant byte (log entry 16). -/
abbrev Addr := BitVec 48

/-- A message of the request or reply queue: 32 words, word 0 the envelope (11.6). -/
abbrev Message := List Word

end Sys2Proof
end

