-- ==== Sys2Proof/Config.lean ====
section
/-! DEFINITION. What the part fixes (00_scope.md "Sizes") and the free values: values that the spec
leaves open. A free value is an opaque constant, so no proof can rest on what it is; `d` is
the draw counter of State, so that two draws need not agree (log entry 26). -/

namespace Sys2Proof.Config

/-- Ports D0 to D31 are 0 to 31, U0 to U7 are 32 to 39 (00_scope.md "Ports"). -/
abbrev portCount : Nat := 40
abbrev downlinkCount : Nat := 32
abbrev tenantCount : Nat := 1024
abbrev profileCount : Nat := 16
abbrev setCount : Nat := 64
abbrev memberMax : Nat := 8
/-- R89: a resolution enters at most five sets. -/
abbrev visitMax : Nat := 5
abbrev pinCount : Nat := 8192
abbrev bucketCount : Nat := 4096
abbrev slotCount : Nat := 16384
/-- R119: the shared buffer's cells. -/
abbrev cellTotal : Nat := 98304
/-- R176: the slots of the request queue and of the reply queue. -/
abbrev queueSlots : Nat := 32
/-- R158: a flap history holds at most eight entries. -/
abbrev flapMax : Nat := 8
/-- 1.1: the largest allowance, overage, ceiling, and value of a frames meter: 2^40 - 1. -/
abbrev max40 : Nat := 1099511627775
/-- 1.1: the largest value of a bytes or accrued meter: 2^48 - 1. -/
abbrev max48 : Nat := 281474976710655
/-- R28: 2^23, one charge unit in the units of the product. -/
abbrev unitSize : Nat := 8388608
/-- R38: 10 s in µs. -/
abbrev agingPeriod : Nat := 10000000
/-- R39: a minute in µs. -/
abbrev minuteMicros : Nat := 60000000

/-- Log entry 7: byte `i` of a pause message that ends before byte `i`. -/
opaque absentByte (d i : Nat) : Byte

/-- Log entry 11: what a field of range 0 to 65,535 takes from body word `i` when that word is
above 65,535 and the request's rule neither refuses nor clamps it. -/
opaque wideField (d i : Nat) (w : Word) : BitVec 16

/-- Log entry 12: the address read from two words whose high word is above 65,535. -/
opaque wideAddress (d : Nat) (lo hi : Word) : Addr

/-- Log entry 13: the flag read from a word that is neither 0 nor 1. -/
opaque oddFlag (d : Nat) (w : Word) : Bool

/-- Log entry 41: byte `i` of the frame check sequence that follows the bytes `sent`. -/
opaque checkByte (sent : List Byte) (i : Nat) : Byte

/-- Log entry 24: the position SWEEP_READ returns after pin slot 8,191 and before the pass end. -/
opaque finishedPosition (d : Nat) : BitVec 13

end Sys2Proof.Config
end

