-- ==== Sys2Proof/Syntax.lean ====
section
/-! DEFINITION. The commands of the part: one constructor for each row of spec/opcode_table.json.
An event at a port names the port. A received frame or pause message is the port, the result
of the frame check, and the bytes as received (log entry 6). RESOLUTION_EVENT and ADMISSION
name a frame in flight by its place among the frames in flight and take its next copy (log entry 5).
A request is the effect event of the request in execution, whose words stand in State, so it
has no operand (R179, log entry 27). -/

namespace Sys2Proof

/-- The commands of the part, in the table's order. -/
inductive Instr where
  /-- POWER_ON (R1). -/
  | powerOn
  /-- CONTROL_RESET (R188). -/
  | controlReset
  /-- FRAME_TAKEN (R43): a frame's reception has ended on a port. -/
  | frameTaken (port : Nat) (checkGood : Bool) (bytes : List Byte)
  /-- PAUSE_MESSAGE_RECEIVED (R140). -/
  | pauseMessageReceived (port : Nat) (checkGood : Bool) (bytes : List Byte)
  /-- RESOLUTION_EVENT (R100). -/
  | resolutionEvent (frame : Nat)
  /-- ADMISSION (R124). -/
  | admission (frame : Nat)
  /-- TRANSMISSION_START (R127). -/
  | transmissionStart (port : Nat)
  /-- TRANSMISSION_COMPLETION (R130). -/
  | transmissionCompletion (port : Nat)
  /-- CONTROL_MESSAGE_SEND (R138). -/
  | controlMessageSend (port : Nat)
  /-- CONTROL_MESSAGE_END (R138). -/
  | controlMessageEnd (port : Nat)
  /-- RENEWAL_EXPIRY (R136). -/
  | renewalExpiry (port : Nat)
  /-- PAUSE_EXPIRY (R141). -/
  | pauseExpiry (port : Nat)
  /-- STORM_EXPIRY (R144). -/
  | stormExpiry (port : Nat)
  /-- RECOVERY_EXPIRY (R145). -/
  | recoveryExpiry (port : Nat)
  /-- LANE_LOSS (R151). -/
  | laneLoss (port : Nat)
  /-- LANE_LOCK (R152). -/
  | laneLock (port : Nat)
  /-- DEBOUNCE_EXPIRY (R153). -/
  | debounceExpiry (port : Nat)
  /-- HOLD_DOWN_EXPIRY (R154). -/
  | holdDownExpiry (port : Nat)
  /-- AGING_POSTING (R38). -/
  | agingPosting
  /-- CLOCK_ADVANCE (R39). -/
  | clockAdvance
  /-- PASS_START (R168). -/
  | passStart
  /-- STATION_VISIT (R170). -/
  | stationVisit
  /-- PIN_VISIT (R171). -/
  | pinVisit
  /-- PASS_END (R172). -/
  | passEnd
  /-- POSTING_AREA_WRITE (R177): a host write of words 0 to 30 of the posting area. -/
  | postingAreaWrite (offset : Nat) (word : Word)
  /-- POST (R177): a host write of word 31 of the posting area. -/
  | post (word : Word)
  /-- RELEASE (R180): a host write of the control word with bit 0 set. -/
  | release (control : Word)
  /-- OVERRUN_FLAG_CLEAR (R177): a host write of the control word with bit 1 set. -/
  | overrunFlagClear (control : Word)
  /-- REQUEST_TAKE (R178). -/
  | requestTake
  /-- UNKNOWN_KIND (R182). -/
  | unknownKind
  /-- TENANT_OPEN (R8), kind 1. -/
  | tenantOpen
  /-- TENANT_AMEND (R9), kind 2. -/
  | tenantAmend
  /-- TENANT_TOPUP (R10), kind 3. -/
  | tenantTopup
  /-- TENANT_COLLECT (R11), kind 4. -/
  | tenantCollect
  /-- TENANT_READ (R12), kind 5. -/
  | tenantRead
  /-- TENANT_SUSPEND (R13), kind 6. -/
  | tenantSuspend
  /-- TENANT_RESUME (R14), kind 7. -/
  | tenantResume
  /-- TENANT_RETIRE (R16), kind 8. -/
  | tenantRetire
  /-- PROFILE_WRITE (R20), kind 9. -/
  | profileWrite
  /-- PROFILE_READ (R23), kind 10. -/
  | profileRead
  /-- CLOCK_SET (R40), kind 11. -/
  | clockSet
  /-- CLOCK_READ (R41), kind 12. -/
  | clockRead
  /-- STATION_INSERT (R71, R72), kind 13. -/
  | stationInsert
  /-- STATION_FIND (R73), kind 14. -/
  | stationFind
  /-- STATION_REMOVE (R74), kind 15. -/
  | stationRemove
  /-- STATION_AGING (R77), kind 16. -/
  | stationAging
  /-- PATHSET_WRITE (R94, R95), kind 17. -/
  | pathsetWrite
  /-- PATHSET_READ (R97), kind 18. -/
  | pathsetRead
  /-- PIN_READ (R117), kind 19. -/
  | pinRead
  /-- POLICY_WRITE (R123), kind 20. -/
  | policyWrite
  /-- QUEUE_READ (R132), kind 21. -/
  | queueRead
  /-- PAUSE_WRITE (R148), kind 22. -/
  | pauseWrite
  /-- PAUSE_READ (R149), kind 23. -/
  | pauseRead
  /-- LINK_ADMIN_DOWN (R161), kind 24 with the direction not up. -/
  | linkAdminDown
  /-- LINK_ADMIN_UP (R162), kind 24 with the direction up. -/
  | linkAdminUp
  /-- LINK_TIMING (R163), kind 25. -/
  | linkTiming
  /-- LINK_READ (R164), kind 26. -/
  | linkRead
  /-- SWEEP_READ (R174), kind 27. -/
  | sweepRead
  /-- NOTICE_FETCH (R185), kind 28. -/
  | noticeFetch
  /-- NOTICE_MASK (R186), kind 29. -/
  | noticeMask
  deriving DecidableEq, Repr

end Sys2Proof
end

