-- ==== Sys2Proof/Machine/Table.lean ====
section
/-! DEFINITION. The two collections State is made of, each in one canonical form so that equal
contents are equal data. A `Table` is a record for each number, listed only where it differs from
the power-on record `d`; numbers rise strictly. A `NatSet` is a set of numbers (00_scope.md "Sets,
lists and optional fields"), listed in strictly rising order. -/

namespace Sys2Proof.Machine

/-- Records by number, numbers strictly rising, none equal to the power-on record. -/
abbrev Table (α : Type) := List (Nat × α)

/-- A set of numbers, strictly rising. -/
abbrev NatSet := List Nat

/-- The record numbered `k`: the power-on record `d` where none is listed. -/
def tableGet {α : Type} (d : α) : Table α → Nat → α
  | [], _ => d
  | (k', v) :: rest, k => if k = k' then v else tableGet d rest k

/-- List `v` at `k`, in order. -/
def tablePut {α : Type} : Table α → Nat → α → Table α
  | [], k, v => [(k, v)]
  | (k', v') :: rest, k, v =>
    if k < k' then (k, v) :: (k', v') :: rest
    else if k = k' then (k, v) :: rest
    else (k', v') :: tablePut rest k v

/-- Unlist `k`. -/
def tableErase {α : Type} (t : Table α) (k : Nat) : Table α :=
  t.filter fun e => e.1 != k

/-- Write record `k`. Writing the power-on record unlists it. -/
def tableSet {α : Type} [DecidableEq α] (d : α) (t : Table α) (k : Nat) (v : α) : Table α :=
  if v = d then tableErase t k else tablePut t k v

/-- The canonical form of a table. -/
def tableWf {α : Type} [DecidableEq α] (d : α) : Table α → Bool
  | [] => true
  | (_, v) :: [] => v != d
  | (k, v) :: (k', v') :: rest => v != d && k < k' && tableWf d ((k', v') :: rest)

/-- Join a member to a set. A member already in the set stays in it once. -/
def setInsert : NatSet → Nat → NatSet
  | [], x => [x]
  | y :: rest, x => if x < y then x :: y :: rest else if x = y then y :: rest else y :: setInsert rest x

/-- Remove a member from a set. -/
def setErase (l : NatSet) (x : Nat) : NatSet := l.filter (· != x)

/-- Whether a number is a member. -/
def setHas (l : NatSet) (x : Nat) : Bool := l.contains x

/-- The canonical form of a set. -/
def setWf : NatSet → Bool
  | [] => true
  | [_] => true
  | x :: y :: rest => x < y && setWf (y :: rest)

/-- A set as bits: bit `n` is set for member `n` (R190). -/
def setBits (width : Nat) (l : NatSet) : Nat :=
  (List.range width).foldl (fun acc n => if setHas l n then acc + 2 ^ n else acc) 0

end Sys2Proof.Machine
end

