-- ==== Sys2Proof/Machine/Records.lean ====
section
/-! DEFINITION. The records of the part, as plain data. Each type names the rule that gives its
fields. A number whose range is a plain fact about one field is a `Fin`; a count or a time is a `Nat`. -/

namespace Sys2Proof.Machine

/-- The four traffic classes, C0 bulk, C1 standard, C2 lossless, C3 control (00_scope.md). -/
inductive Cls where
  | c0 | c1 | c2 | c3
  deriving DecidableEq, Repr

/-- The class's number; classes are compared by it. -/
def Cls.number : Cls → Nat
  | .c0 => 0
  | .c1 => 1
  | .c2 => 2
  | .c3 => 3

/-- The class of a number, if there is one. -/
def Cls.ofNumber : Nat → Option Cls
  | 0 => some .c0
  | 1 => some .c1
  | 2 => some .c2
  | 3 => some .c3
  | _ => none

/-- The class in a two-bit field. -/
def Cls.ofBits (b : BitVec 2) : Cls :=
  if b = 0#2 then .c0 else if b = 1#2 then .c1 else if b = 2#2 then .c2 else .c3

/-- One thing for each class. -/
structure PerClass (α : Type) where
  c0 : α
  c1 : α
  c2 : α
  c3 : α
  deriving DecidableEq, Repr

def PerClass.get {α : Type} (p : PerClass α) : Cls → α
  | .c0 => p.c0
  | .c1 => p.c1
  | .c2 => p.c2
  | .c3 => p.c3

def PerClass.set {α : Type} (p : PerClass α) (c : Cls) (v : α) : PerClass α :=
  match c with
  | .c0 => { p with c0 := v }
  | .c1 => { p with c1 := v }
  | .c2 => { p with c2 := v }
  | .c3 => { p with c3 := v }

/-! ### Tenants and tariffs (01_tenant_records_and_contracts.md) -/

/-- R2, in the order R191 numbers them. -/
inductive TenantState where
  | vacant | active | overage | throttled | suspended | draining
  deriving DecidableEq, Repr

/-- R191: the state's number in a reply. -/
def TenantState.number : TenantState → Nat
  | .vacant => 0
  | .active => 1
  | .overage => 2
  | .throttled => 3
  | .suspended => 4
  | .draining => 5

/-- R2: ACTIVE, OVERAGE and THROTTLED are open for traffic. -/
def TenantState.openForTraffic : TenantState → Bool
  | .vacant => false
  | .active => true
  | .overage => true
  | .throttled => true
  | .suspended => false
  | .draining => false

/-- R2: open for traffic, or SUSPENDED. -/
def TenantState.inContract : TenantState → Bool
  | .vacant => false
  | .active => true
  | .overage => true
  | .throttled => true
  | .suspended => true
  | .draining => false

/-- 1.1: the meters of one class. -/
structure Meters where
  bytes : Nat
  frames : Nat
  accrued : Nat
  residue : Nat
  deriving DecidableEq, Repr

/-- 1.1: the tenant record. -/
structure Tenant where
  state : TenantState
  profile : Nat
  portSet : BitVec 32
  defaultPath : Option (Fin 64)
  stationLimit : Nat
  stationCount : Nat
  allowance : Nat
  overage : Nat
  ceiling : Nat
  inBuffer : Nat
  saturated : Bool
  meters : PerClass Meters
  deriving DecidableEq, Repr

/-- R19: the tariff profile. The multiplier map names C0, C1 and C3 only. -/
structure Profile where
  rates : PerClass Nat
  multiplier : Nat
  mapC0 : Bool
  mapC1 : Bool
  mapC3 : Bool
  surcharge : Nat
  peakHours : BitVec 24
  demotion : PerClass Cls
  deriving DecidableEq, Repr

/-- R39: the time-of-day clock. -/
structure Clock where
  valid : Bool
  minute : Nat
  nextAdvance : Option Nat
  deriving DecidableEq, Repr

/-! ### Stations (04_station_table.md) -/

/-- R62. -/
inductive EntryKind where
  | learned | static
  deriving DecidableEq, Repr

/-- R62: where frames for a station are sent. -/
inductive Target where
  | downlink (p : Fin 32)
  | path (s : Fin 64)
  deriving DecidableEq, Repr

/-- R62: a station entry; its key is the tenant and the address. -/
structure Entry where
  tenant : Nat
  address : Addr
  kind : EntryKind
  target : Target
  lastSeen : Nat
  deriving DecidableEq, Repr

/-! ### Path sets and pins (05, 06) -/

/-- R80. -/
inductive Mode where
  | hashed | rotating
  deriving DecidableEq, Repr

/-- R80: uplink U0 to U7 (port 32 + u), or another set. -/
inductive Member where
  | uplink (u : Fin 8)
  | redirect (s : Fin 64)
  deriving DecidableEq, Repr

/-- R80: the path set record. -/
structure PathSet where
  mode : Mode
  members : List Member
  fallback : Option (Fin 64)
  cursor : Nat
  flowlet : Nat
  restore : Nat
  setchange : Nat
  lossless : Nat
  deriving DecidableEq, Repr

/-- R80: a member reference; a pin's place. -/
structure Place where
  set : Fin 64
  index : Nat
  deriving DecidableEq, Repr

/-- R99: a flow pin. -/
structure Pin where
  valid : Bool
  check : BitVec 16
  origin : Fin 64
  current : Place
  home : Place
  lastUse : Nat
  deriving DecidableEq, Repr

/-! ### Copies, queues and ports (03, 07, 08, 09) -/

/-- R51: the tenant tag a copy leaves with. Its type is 0xB7A4 and its zero bits are zero. -/
structure OutTag where
  tenant : Nat
  cls : Cls
  markCapable : Bool
  mark : Bool
  label : Word
  deriving DecidableEq, Repr

/-- R58: where a copy goes. `uplink u` is a copy whose resolution has chosen uplink `u` (R88). -/
inductive Dest where
  | downlink (q : Fin 32)
  | resolve (s : Fin 64)
  | uplink (u : Fin 8)
  deriving DecidableEq, Repr

/-- R58: the copy record, and the frame's bytes, which the copy carries (log entry 21). -/
structure Copy where
  dest : Dest
  tenant : Nat
  cls : Cls
  throttled : Bool
  len : Nat
  cells : Nat
  ingress : Fin 40
  markCapable : Bool
  pinSlot : Nat
  pinCheck : BitVec 16
  hashHigh : Nat
  tag : OutTag
  data : List Byte
  deriving DecidableEq, Repr

/-- R120: a queued frame. That it is in transmission is held by the port's transmitter (log entry 20). -/
structure QFrame where
  tenant : Nat
  cls : Cls
  len : Nat
  cells : Nat
  ingress : Fin 40
  markCapable : Bool
  tag : OutTag
  uncharged : Bool
  data : List Byte
  deriving DecidableEq, Repr

/-- R121: the state of a C2 queue. -/
inductive QState where
  | ready | paused | stalled
  deriving DecidableEq, Repr

/-- R134: a control message: a pause with its duration in µs, or a resume. -/
inductive Control where
  | pause (duration : Nat)
  | resume
  deriving DecidableEq, Repr

/-- What a port's transmitter is doing (R127, R129, R138). -/
inductive Transmitter where
  /-- Nothing is on the wire. -/
  | idle
  /-- The oldest frame of queue `c` is in transmission. -/
  | frame (c : Cls)
  /-- A control message is on the wire. -/
  | control (m : Control)
  deriving DecidableEq, Repr

/-- R143: a running storm timer. -/
structure StormTimer where
  start : Nat
  expiry : Nat
  deriving DecidableEq, Repr

/-- R150, in the order the rule lists them. -/
inductive LinkState where
  | up | suspect | down | proving | adminDown
  deriving DecidableEq, Repr

def LinkState.number : LinkState → Nat
  | .up => 0
  | .suspect => 1
  | .down => 2
  | .proving => 3
  | .adminDown => 4

/-- R150. -/
inductive LaneStatus where
  | locked | lost
  deriving DecidableEq, Repr

/-- R134. -/
inductive IngressState where
  | flowing | pausing
  deriving DecidableEq, Repr

/-- Everything a port block and its queues hold (R120, R128, R133, R134, R140, R143 to R145, R150). -/
structure Port where
  /-- R150: the link monitor record. -/
  link : LinkState
  lane : LaneStatus
  debounceEnd : Option Nat
  holdDownEnd : Option Nat
  flapHistory : List Nat
  /-- R133, R134: the ingress side. -/
  losslessCount : Nat
  ingress : IngressState
  renewal : Option Nat
  slot : Option Control
  /-- R120, R127, R128: the egress queues, the transmitter and the rotation position. -/
  queues : PerClass (List QFrame)
  transmitter : Transmitter
  rotation : Fin 4
  /-- R121, R140, R143, R145: the C2 queue's state and timers, and the storm recovery. -/
  c2State : QState
  pauseEnd : Option Nat
  storm : Option StormTimer
  recoveryEnd : Option Nat
  stormHold : Bool
  deriving DecidableEq, Repr

/-- The two port kinds (R122, R147). -/
inductive PortKind where
  | downlink | uplink
  deriving DecidableEq, Repr

structure PerKind (α : Type) where
  downlink : α
  uplink : α
  deriving DecidableEq, Repr

def PerKind.get {α : Type} (p : PerKind α) : PortKind → α
  | .downlink => p.downlink
  | .uplink => p.uplink

def PerKind.set {α : Type} (p : PerKind α) (k : PortKind) (v : α) : PerKind α :=
  match k with
  | .downlink => { p with downlink := v }
  | .uplink => { p with uplink := v }

/-- 00_scope.md "Ports". -/
def kindOfPort (p : Nat) : PortKind := if p < 32 then .downlink else .uplink

/-- R122: a queue policy record. A field its record does not hold is never written or read. -/
structure Policy where
  mark : Nat
  drop : Nat
  resteer : Nat
  throttle : Nat
  deriving DecidableEq, Repr

/-- R147: a pause settings record. -/
structure PauseSettings where
  pauseOn : Nat
  pauseOff : Nat
  quantum : Nat
  deriving DecidableEq, Repr

/-- R163: the link settings, in the units the rule gives. -/
structure LinkSettings where
  debounceMs : Nat
  baseMs : Nat
  penaltyS : Nat
  threshold : Nat
  windowS : Nat
  stormBudget : Nat
  recoveryMs : Nat
  deriving DecidableEq, Repr

/-! ### The sweeper, the request engine and the notice unit (10, 11) -/

/-- R166: a list of jobs. -/
structure Jobs where
  aging : Bool
  ports : NatSet
  tenants : NatSet
  sets : NatSet
  deriving DecidableEq, Repr

/-- R166. -/
inductive Phase where
  | stations | pins
  deriving DecidableEq, Repr

/-- R166: the pass that runs. In PINS the position 8,192 stands for "no slot left to visit"
(log entry 24). -/
structure Pass where
  carried : Jobs
  phase : Phase
  position : Nat
  deriving DecidableEq, Repr

/-- R176, R188: the request in execution, and whether its reply is to be appended. -/
structure Execution where
  message : Message
  keepReply : Bool
  deriving DecidableEq, Repr

/-- R183: the notice kinds, in priority order. -/
inductive NoticeKind where
  | pauseStorm | linkDown | chainFault | tenantThrottled | tenantOverage | meterSaturated
  | linkUp | flushDone | rebalanceDone | purgeDone | postingOverrun
  deriving DecidableEq, Repr

/-- R183: the kind's priority number. -/
def NoticeKind.number : NoticeKind → Nat
  | .pauseStorm => 1
  | .linkDown => 2
  | .chainFault => 3
  | .tenantThrottled => 4
  | .tenantOverage => 5
  | .meterSaturated => 6
  | .linkUp => 7
  | .flushDone => 8
  | .rebalanceDone => 9
  | .purgeDone => 10
  | .postingOverrun => 11

/-- R183: every kind, highest priority first. -/
def noticeKinds : List NoticeKind :=
  [.pauseStorm, .linkDown, .chainFault, .tenantThrottled, .tenantOverage, .meterSaturated,
    .linkUp, .flushDone, .rebalanceDone, .purgeDone, .postingOverrun]

/-- R181: the statuses. -/
inductive Status where
  | done | doneClamped | notVacant | noTenant | badState | notFound | limit | bucketFull | malformed
  deriving DecidableEq, Repr

/-- R181: the status's code. -/
def Status.code : Status → Nat
  | .done => 0
  | .doneClamped => 1
  | .notVacant => 2
  | .noTenant => 3
  | .badState => 4
  | .notFound => 5
  | .limit => 6
  | .bucketFull => 7
  | .malformed => 8

end Sys2Proof.Machine
end

