-- ==== Sys2Proof/Machine/PowerOn.lean ====
section
/-! DEFINITION. The power-on value of each record, as the rule of each record states it. -/

namespace Sys2Proof.Machine

/-- 1.1: meters at 0. -/
def zeroMeters : Meters := { bytes := 0, frames := 0, accrued := 0, residue := 0 }

/-- R1: the VACANT record. -/
def vacantTenant : Tenant :=
  { state := .vacant, profile := 0, portSet := 0#32, defaultPath := none, stationLimit := 0,
    stationCount := 0, allowance := 0, overage := 0, ceiling := 0, inBuffer := 0,
    saturated := false, meters := ⟨zeroMeters, zeroMeters, zeroMeters, zeroMeters⟩ }

/-- R19. -/
def powerOnProfile : Profile :=
  { rates := ⟨0, 0, 0, 0⟩, multiplier := 1, mapC0 := false, mapC1 := false, mapC3 := false,
    surcharge := 0, peakHours := 0#24, demotion := ⟨.c0, .c1, .c2, .c3⟩ }

/-- R39. -/
def powerOnClock : Clock := { valid := false, minute := 0, nextAdvance := none }

/-- R81. -/
def emptyPathSet : PathSet :=
  { mode := .hashed, members := [], fallback := none, cursor := 0, flowlet := 0, restore := 0,
    setchange := 0, lossless := 0 }

/-- R99. -/
def powerOnPin : Pin :=
  { valid := false, check := 0#16, origin := 0, current := ⟨0, 0⟩, home := ⟨0, 0⟩, lastUse := 0 }

/-- R120, R128, R133, R134, R140, R143, R145, R150: DOWN, lane LOST, nothing queued, nothing running. -/
def powerOnPort : Port :=
  { link := .down, lane := .lost, debounceEnd := none, holdDownEnd := none, flapHistory := [],
    losslessCount := 0, ingress := .flowing, renewal := none, slot := none,
    queues := ⟨[], [], [], []⟩, transmitter := .idle, rotation := 0,
    c2State := .ready, pauseEnd := none, storm := none, recoveryEnd := none, stormHold := false }

/-- R122. -/
def powerOnPolicy : Policy := { mark := 98304, drop := 98304, resteer := 98304, throttle := 98304 }

/-- R122: the eight policy records. -/
def powerOnPolicies : PerKind (PerClass Policy) :=
  ⟨⟨powerOnPolicy, powerOnPolicy, powerOnPolicy, powerOnPolicy⟩,
    ⟨powerOnPolicy, powerOnPolicy, powerOnPolicy, powerOnPolicy⟩⟩

/-- R147. -/
def powerOnPauseSettings : PerKind PauseSettings :=
  ⟨{ pauseOn := 1024, pauseOff := 512, quantum := 20000 },
    { pauseOn := 2048, pauseOff := 1024, quantum := 20000 }⟩

/-- R163. -/
def powerOnLinkSettings : LinkSettings :=
  { debounceMs := 10, baseMs := 2000, penaltyS := 30, threshold := 3, windowS := 60,
    stormBudget := 19, recoveryMs := 5000 }

/-- R166: no jobs. -/
def noJobs : Jobs := { aging := false, ports := [], tenants := [], sets := [] }

/-- R76: the aging interval, in s. -/
def powerOnAgingInterval : Nat := 300

/-- R76: the pin expiry, in s. -/
def powerOnPinExpiry : Nat := 10

/-- R176: a posting area of zeros; also a message of zeros (R180). -/
def zeroMessage : Message := List.replicate 32 0#32

/-- R184: every kind masked. Bit `n` is the kind of priority `n + 1` (R190). -/
def allMasked : BitVec 11 := 0x7FF#11

/-- R38: the first AGING posting falls at 10 s. -/
def firstAgingPosting : Nat := 10000000

end Sys2Proof.Machine
end

