-- ==== Sys2Proof/Machine/Operands.lean ====
section
/-! DEFINITION. The operand forms of the commands: bytes of a received frame (R44, R189, "Tenant tag",
"Pause message"), words of a request and of a reply (R190 to R192), and the two hashes
(00_scope.md "The flow hash", "The station bucket"). -/

namespace Sys2Proof.Machine

/-! ### Hashes -/

/-- One bit of the CRC-32, as a right shift with the reflected polynomial. -/
def crcBit (r : BitVec 32) : BitVec 32 :=
  if r.getLsbD 0 then (r >>> 1) ^^^ 0xEDB88320#32 else r >>> 1

/-- One byte of the CRC-32, least significant bit first. -/
def crcByte (r : BitVec 32) (b : Byte) : BitVec 32 :=
  crcBit (crcBit (crcBit (crcBit (crcBit (crcBit (crcBit (crcBit (r ^^^ b.setWidth 32))))))))

/-- The CRC-32 of both hashes: initial value all ones, result not inverted. -/
def crc32 (bytes : List Byte) : BitVec 32 := bytes.foldl crcByte 0xFFFFFFFF#32

/-- The tenant number as two bytes, high byte first ("Tenant tag"). -/
def tenantBytes (t : Nat) : List Byte := [BitVec.ofNat 8 (t / 256), BitVec.ofNat 8 t]

/-- An address in wire order, byte 0 first (log entry 16). -/
def addrBytes (a : Addr) : List Byte :=
  [a.extractLsb' 40 8, a.extractLsb' 32 8, a.extractLsb' 24 8, a.extractLsb' 16 8,
    a.extractLsb' 8 8, a.extractLsb' 0 8]

/-- A 32-bit field, most significant byte first. -/
def wordBytes (w : Word) : List Byte :=
  [w.extractLsb' 24 8, w.extractLsb' 16 8, w.extractLsb' 8 8, w.extractLsb' 0 8]

/-- The flow hash (R50). -/
def flowHash (t : Nat) (dst src : Addr) (label : Word) : BitVec 32 :=
  crc32 (tenantBytes t ++ addrBytes dst ++ addrBytes src ++ wordBytes label)

/-- The station bucket of a key (R63). -/
def stationBucket (t : Nat) (a : Addr) : Nat := (crc32 (tenantBytes t ++ addrBytes a)).toNat % 4096

/-- A group address: the lowest bit of the first byte is set (R52, R53). -/
def isGroup (a : Addr) : Bool := a.getLsbD 40

/-! ### Frames -/

/-- Byte `i` of a frame that has passed the length check (R45), so that every byte read exists. -/
def frameByte (bytes : List Byte) (i : Nat) : Nat := (bytes.getD i 0#8).toNat

/-- A field of `n` bytes from byte `i`, most significant byte first. -/
def frameField (bytes : List Byte) (i n : Nat) : Nat :=
  (List.range n).foldl (fun acc j => 256 * acc + frameByte bytes (i + j)) 0

/-- What Intake reads from a frame and its tag (R44). -/
structure FrameFields where
  dst : Addr
  src : Addr
  tagType : Nat
  tenant : Nat
  cls : Cls
  markCapable : Bool
  mark : Bool
  label : Word
  deriving DecidableEq, Repr

/-- R44 by the table "Tenant tag". The two zero bits are not read. -/
def readFrame (bytes : List Byte) : FrameFields :=
  let low := BitVec.ofNat 8 (frameByte bytes 15)
  { dst := BitVec.ofNat 48 (frameField bytes 0 6)
    src := BitVec.ofNat 48 (frameField bytes 6 6)
    tagType := frameField bytes 12 2
    tenant := 4 * frameByte bytes 14 + frameByte bytes 15 / 64
    cls := Cls.ofBits (low.extractLsb' 4 2)
    markCapable := low.getLsbD 3
    mark := low.getLsbD 2
    label := BitVec.ofNat 32 (frameField bytes 16 4) }

/-- R189: bytes 12 and 13 hold 0xB7A5, whatever the destination and length. -/
def isPauseMessage (bytes : List Byte) : Bool :=
  14 ≤ bytes.length && frameField bytes 12 2 == 0xB7A5

/-- Byte `i` of a pause message; free where the message ends before it (log entry 7). -/
def pauseByte (d : Nat) (bytes : List Byte) (i : Nat) : Byte :=
  bytes.getD i (Config.absentByte d i)

/-- R189: the class field of a pause message, byte 14 bits 1 to 0. -/
def pauseClass (d : Nat) (bytes : List Byte) : Cls := Cls.ofBits ((pauseByte d bytes 14).extractLsb' 0 2)

/-- R189: the duration of a pause message, bytes 16 and 17. -/
def pauseDuration (d : Nat) (bytes : List Byte) : Nat :=
  256 * (pauseByte d bytes 16).toNat + (pauseByte d bytes 17).toNat

/-- The 8 bytes of an outgoing tag (R51, "Tenant tag"). -/
def tagBytes (g : OutTag) : List Byte :=
  [0xB7#8, 0xA4#8, BitVec.ofNat 8 (g.tenant / 4),
    BitVec.ofNat 8 (64 * (g.tenant % 4) + 16 * g.cls.number + 8 * g.markCapable.toNat + 4 * g.mark.toNat)]
    ++ wordBytes g.label

/-- R129: the bytes as received, with the outgoing tag in place of the tag it arrived with. -/
def frameOnWire (f : QFrame) : List Byte := f.data.take 12 ++ tagBytes f.tag ++ f.data.drop 20

/-- R134: the duration a control message carries. -/
def Control.duration : Control → Nat
  | .pause d => d
  | .resume => 0

/-- R189: bytes 0 to 59 of a pause message that the part sends. -/
def pauseBody (m : Control) : List Byte :=
  [0x01#8, 0xB7#8, 0xA4#8, 0#8, 0#8, 0x01#8, 0#8, 0#8, 0#8, 0#8, 0#8, 0#8, 0xB7#8, 0xA5#8, 2#8, 0#8,
    BitVec.ofNat 8 (m.duration / 256), BitVec.ofNat 8 m.duration] ++ List.replicate 42 0#8

/-- Bytes 60 to 63: the frame check sequence, four free bytes, as the spec does not say how it is
computed (log entry 41). -/
def checkBytes (sent : List Byte) : List Byte := (List.range 4).map (Config.checkByte sent)

/-- R189: the 64 bytes of a pause message that the part sends. -/
def pauseOnWire (m : Control) : List Byte := pauseBody m ++ checkBytes (pauseBody m)

/-! ### Fields of a request (R190) -/

/-- Word `i` of a message. -/
def word (m : Message) (i : Nat) : Word := m.getD i 0#32

/-- A one-word field, read in full. -/
def num (m : Message) (i : Nat) : Nat := (word m i).toNat

/-- A two-word field, low word first, read in full. -/
def num2 (m : Message) (i : Nat) : Nat := num m i + 4294967296 * num m (i + 1)

/-- Word 0 bits 7 to 0: the kind number. -/
def kindOf (m : Message) : Nat := num m 0 % 256

/-- Word 0 bits 31 to 16: the host tag. -/
def tagOf (m : Message) : Nat := num m 0 / 65536

/-- Whether a field of range 0 to 65,535 was given a word above it. -/
def isWide (m : Message) (i : Nat) : Bool := 65535 < num m i

/-- A field of range 0 to 65,535 that its rule neither refuses nor clamps; free when the word is above
the range (log entry 11). -/
def field16 (d : Nat) (m : Message) (i : Nat) : Nat :=
  if isWide m i then (Config.wideField d i (word m i)).toNat else num m i

/-- Whether an address field was given a high word above 65,535. -/
def isWideAddress (m : Message) (i : Nat) : Bool := 65535 < num m (i + 1)

/-- An address field: two words, low word first; free when the high word is above 65,535 (log entry 12). -/
def addressField (d : Nat) (m : Message) (i : Nat) : Addr :=
  if isWideAddress m i then Config.wideAddress d (word m i) (word m (i + 1))
  else BitVec.ofNat 48 (num2 m i)

/-- Whether a flag word is neither 0 nor 1. -/
def isOddFlag (m : Message) (i : Nat) : Bool := 1 < num m i

/-- A flag field; free when the word is neither 0 nor 1 (log entry 13). -/
def flagField (d : Nat) (m : Message) (i : Nat) : Bool :=
  if isOddFlag m i then Config.oddFlag d (word m i) else num m i == 1

/-- An optional field: bit 31 set when present, the value in the low bits. -/
def optionalField (m : Message) (i : Nat) : Option Nat :=
  if (word m i).getLsbD 31 then some (num m i % 2147483648) else none

/-- A path set number, if in range. -/
def setNumber (n : Nat) : Option (Fin 64) := if h : n < 64 then some ⟨n, h⟩ else none

/-- An optional path set number: `none` when it is given and out of range. -/
def optionalSet (m : Message) (i : Nat) : Option (Option (Fin 64)) :=
  match optionalField m i with
  | none => some none
  | some n => (setNumber n).map some

/-- A member field: bits 7 to 0 the number, bits 9 to 8 the kind; `none` when R94 refuses it. -/
def memberOf (w : Word) : Option Member :=
  let n := w.toNat % 256
  if w.extractLsb' 8 2 = 1#2 then (if h : n < 8 then some (.uplink ⟨n, h⟩) else none)
  else if w.extractLsb' 8 2 = 2#2 then (setNumber n).map .redirect
  else none

/-- A target field: bits 7 to 0 the number, bits 9 to 8 the kind; `none` when R71 refuses it. -/
def targetOf (w : Word) : Option Target :=
  let n := w.toNat % 256
  if w.extractLsb' 8 2 = 1#2 then (if h : n < 32 then some (.downlink ⟨n, h⟩) else none)
  else if w.extractLsb' 8 2 = 2#2 then (setNumber n).map .path
  else none

/-- The member fields from word `i`, the first `n`; `none` when any is refused. -/
def membersOf (m : Message) (i : Nat) : Nat → Option (List Member)
  | 0 => some []
  | n + 1 =>
    match memberOf (word m i), membersOf m (i + 1) n with
    | some x, some rest => some (x :: rest)
    | _, _ => none

/-- A mode, by its position in R80's list (log entry 10). -/
def modeOf : Nat → Option Mode
  | 0 => some .hashed
  | 1 => some .rotating
  | _ => none

/-- A port kind, by its position in R122's list (log entry 10). -/
def portKindOf : Nat → Option PortKind
  | 0 => some .downlink
  | 1 => some .uplink
  | _ => none

/-- A demotion map field: bits 2n+1 to 2n the target of class Cn. -/
def demotionOf (w : Word) : PerClass Cls :=
  ⟨Cls.ofBits (w.extractLsb' 0 2), Cls.ofBits (w.extractLsb' 2 2), Cls.ofBits (w.extractLsb' 4 2),
    Cls.ofBits (w.extractLsb' 6 2)⟩

/-! ### Fields of a reply (R190 to R192) -/

/-- A one-word field. -/
def out (n : Nat) : Word := BitVec.ofNat 32 n

/-- A two-word field, low word first. -/
def out2 (n : Nat) : List Word := [out n, out (n / 4294967296)]

/-- A flag. -/
def outFlag (b : Bool) : Word := out b.toNat

/-- An optional field. -/
def outOption : Option Nat → Word
  | none => 0#32
  | some n => out (2147483648 + n)

/-- A member field. -/
def outMember : Member → Word
  | .uplink u => out (256 + u)
  | .redirect s => out (512 + s)

/-- A target field. -/
def outTarget : Target → Word
  | .downlink p => out (256 + p)
  | .path s => out (512 + s)

/-- A station kind, by its position in R62's list (log entry 10). -/
def outKind : EntryKind → Word
  | .learned => 0#32
  | .static => 1#32

/-- A member reference: bits 7 to 0 the index, bits 15 to 8 the set. -/
def outPlace (p : Place) : Word := out (256 * p.set + p.index % 256)

/-- A demotion map. -/
def outDemotion (d : PerClass Cls) : Word :=
  out (d.c0.number + 4 * d.c1.number + 16 * d.c2.number + 64 * d.c3.number)

/-- The state of a queue, by its position in R120's list. -/
def QState.number : QState → Nat
  | .ready => 0
  | .paused => 1
  | .stalled => 2

def IngressState.number : IngressState → Nat
  | .flowing => 0
  | .pausing => 1

def Mode.number : Mode → Nat
  | .hashed => 0
  | .rotating => 1

/-- A phase, by its position in R166's list (log entry 10). -/
def Phase.number : Phase → Nat
  | .stations => 0
  | .pins => 1

/-- A pending control message: its position in R149's list, then its duration (log entry 18). -/
def outControl : Option Control → List Word
  | none => [0#32, 0#32]
  | some (.pause d) => [1#32, out d]
  | some .resume => [2#32, 0#32]

/-- A list in the fixed eight places of the reply that carries it (log entry 9). -/
def eightSlots {α : Type} (blank : List Word) (f : α → List Word) (l : List α) : List Word :=
  (List.range 8).flatMap fun i =>
    match l[i]? with
    | some x => f x
    | none => blank

/-- A message of 32 words from its first words, the rest zero. -/
def padded (ws : List Word) : Message := (ws ++ zeroMessage).take 32

/-- R179, "Request and reply envelopes": the reply to a request. -/
def replyTo (m : Message) (st : Status) (body : List Word) : Message :=
  padded (out (kindOf m + 256 * st.code + 65536 * tagOf m) :: body)

/-- R191: the five words of one class's meters. -/
def meterWords (m : Meters) : List Word :=
  [out m.bytes, out (m.bytes / 4294967296 % 65536 + 65536 * (m.accrued / 4294967296 % 65536)),
    out m.accrued, out m.frames, out (m.frames / 4294967296 % 256 + 256 * m.residue)]

/-- R191: the tenant report, words 1 to 31. -/
def tenantReport (r : Tenant) (after : TenantState) : List Word :=
  [out (r.state.number + 16 * after.number + 256 * r.profile + 4096 * r.saturated.toNat),
    r.portSet, outOption (r.defaultPath.map Fin.val), out (r.stationLimit + 65536 * r.stationCount)]
    ++ out2 r.allowance ++ out2 r.overage ++ out2 r.ceiling ++ [out r.inBuffer]
    ++ meterWords r.meters.c0 ++ meterWords r.meters.c1 ++ meterWords r.meters.c2
    ++ meterWords r.meters.c3

end Sys2Proof.Machine
end

