-- ==== Sys2Proof/Machine/State.lean ====
section
/-! DEFINITION. The state of the part: every record, table, queue, timer and setting the spec gives
it, and the queue of commands that wait. -/

namespace Sys2Proof.Machine

/-- The state of the part. A table lists only the records that differ from their power-on record. -/
structure State where
  /-- R38: the timebase, in µs; 48 bits. -/
  timebase : Nat
  /-- R38: when the next AGING posting is due. -/
  nextAging : Nat
  /-- R39. -/
  clock : Clock
  /-- 1.1, by tenant number. -/
  tenants : Table Tenant
  /-- R19, by profile number. -/
  profiles : Table Profile
  /-- R62, by slot; a slot not listed is free. -/
  stations : Table (Option Entry)
  /-- R76, in s. -/
  agingInterval : Nat
  pinExpiry : Nat
  /-- R80, by set number. -/
  pathSets : Table PathSet
  /-- R99, by slot. -/
  pins : Table Pin
  /-- The port blocks, their queues and their transmitters, by port number. -/
  ports : Table Port
  /-- R119. -/
  freeCount : Nat
  /-- R122. -/
  policies : PerKind (PerClass Policy)
  /-- R147. -/
  pauseSettings : PerKind PauseSettings
  /-- R163. -/
  linkSettings : LinkSettings
  /-- R166: the pending list. -/
  jobs : Jobs
  /-- R166: the pass that runs. -/
  pass : Option Pass
  /-- R176. -/
  postingArea : List Word
  requests : List Message
  execution : Option Execution
  replies : List Message
  overrun : Bool
  /-- R184: the pending set of each kind, by priority number. -/
  notices : Table NatSet
  /-- R184: bit `n` set: the kind of priority `n + 1` is masked. -/
  masks : BitVec 11
  /-- The model's own (log entry 5): the copies of each frame not yet taken by the next block. -/
  inFlight : List (List Copy)
  /-- The model's own (log entry 23): message-signalled interrupts sent since power-on (R187). -/
  interruptsSent : Nat
  /-- The model's own (log entry 26): the counter the free values are applied to. -/
  draws : Nat
  /-- The model's own (log entry 1): the commands that wait, the next one first. -/
  pending : List Instr
  deriving DecidableEq, Repr

/-- Why the part stops. -/
inductive Fault where
  /-- Raised by `step` when no command waits and the timebase, at its last value 2^48 - 1, would count
  on; the spec says only that this does not happen during service (log entry 4). Safe. -/
  | timebaseExhausted
  deriving DecidableEq, Repr

/-- Why the model gives no next state. -/
inductive Refusal where
  /-- Raised by an arm of `exec` whose command has no meaning yet. Safe. -/
  | notModelled (mnemonic : String)
  /-- Raised by a command that names something the part does not have: a port above 39, a word of the
  posting area above 30 in POSTING_AREA_WRITE, a control word without the bit of its row
  (log entry 2). Safe. -/
  | illFormed
  deriving DecidableEq, Repr

/-- The part right after power-on: every field at the value its rule states. -/
def State.reset : State :=
  { timebase := 0, nextAging := firstAgingPosting, clock := powerOnClock, tenants := [],
    profiles := [], stations := [], agingInterval := powerOnAgingInterval,
    pinExpiry := powerOnPinExpiry, pathSets := [], pins := [], ports := [], freeCount := 98304,
    policies := powerOnPolicies, pauseSettings := powerOnPauseSettings,
    linkSettings := powerOnLinkSettings, jobs := noJobs, pass := none,
    postingArea := zeroMessage, requests := [], execution := none, replies := [],
    overrun := false, notices := [], masks := allMasked, inFlight := [], interruptsSent := 0,
    draws := 0, pending := [] }

end Sys2Proof.Machine
end

