-- ==== Sys2Proof/Machine/Access.lean ====
section
/-! DEFINITION. Reading and writing one record of State. A record that no table lists is its power-on
record. -/

namespace Sys2Proof.Machine

def State.tenant (s : State) (t : Nat) : Tenant := tableGet vacantTenant s.tenants t

def State.setTenant (s : State) (t : Nat) (r : Tenant) : State :=
  { s with tenants := tableSet vacantTenant s.tenants t r }

def State.profile (s : State) (n : Nat) : Profile := tableGet powerOnProfile s.profiles n

def State.setProfile (s : State) (n : Nat) (r : Profile) : State :=
  { s with profiles := tableSet powerOnProfile s.profiles n r }

/-- The entry in a station slot; `none` when the slot is free. -/
def State.station (s : State) (slot : Nat) : Option Entry := tableGet none s.stations slot

def State.setStation (s : State) (slot : Nat) (e : Option Entry) : State :=
  { s with stations := tableSet none s.stations slot e }

def State.pathSet (s : State) (n : Nat) : PathSet := tableGet emptyPathSet s.pathSets n

def State.setPathSet (s : State) (n : Nat) (r : PathSet) : State :=
  { s with pathSets := tableSet emptyPathSet s.pathSets n r }

def State.pin (s : State) (slot : Nat) : Pin := tableGet powerOnPin s.pins slot

def State.setPin (s : State) (slot : Nat) (r : Pin) : State :=
  { s with pins := tableSet powerOnPin s.pins slot r }

def State.port (s : State) (p : Nat) : Port := tableGet powerOnPort s.ports p

def State.setPort (s : State) (p : Nat) (r : Port) : State :=
  { s with ports := tableSet powerOnPort s.ports p r }

/-- R184: the pending set of a kind. -/
def State.noticeSet (s : State) (k : NoticeKind) : NatSet := tableGet [] s.notices k.number

def State.setNotices (s : State) (k : NoticeKind) (l : NatSet) : State :=
  { s with notices := tableSet [] s.notices k.number l }

/-- The policy record of a port kind and class (R122). -/
def State.policy (s : State) (k : PortKind) (c : Cls) : Policy := (s.policies.get k).get c

/-- The pause settings that a port reads (R147). -/
def State.pauseOf (s : State) (p : Nat) : PauseSettings := s.pauseSettings.get (kindOfPort p)

/-- "Now" in timebase seconds (00_scope.md "Time"). -/
def State.second (s : State) : Nat := s.timebase / 1000000

/-- The carried jobs: those of the pass that runs, or none (R166). -/
def State.carried (s : State) : Jobs :=
  match s.pass with
  | some q => q.carried
  | none => noJobs

/-- The frames of queue (p, c), oldest first (R120). -/
def State.queue (s : State) (p : Nat) (c : Cls) : List QFrame := (s.port p).queues.get c

end Sys2Proof.Machine
end

