-- ==== Sys2Proof/Machine/Flags.lean ====
section
/-! DEFINITION. Everything the part derives from its state and does not store: conditions, summaries,
occupancies, usability, and what the outside reads (the host window, the wire). -/

namespace Sys2Proof.Machine

/-! ### The Notice Unit and the host window (11_request_port_notices_and_formats.md) -/

/-- R184: whether a kind is masked. -/
def State.masked (s : State) (k : NoticeKind) : Bool := s.masks.getLsbD (k.number - 1)

/-- R187: at least one unmasked kind has a non-empty pending set. -/
def State.interruptCondition (s : State) : Bool :=
  noticeKinds.any fun k => !s.masked k && !(s.noticeSet k).isEmpty

/-- R185: for each kind, whether its set is not empty; bit `n` for the kind of priority `n + 1`. -/
def State.pendingSummary (s : State) : Nat :=
  (noticeKinds.filter fun k => !(s.noticeSet k).isEmpty).foldl (fun acc k => acc + 2 ^ (k.number - 1)) 0

/-- R176: 32 minus the number of requests in the request queue. -/
def State.freeSlots (s : State) : Nat := 32 - s.requests.length

/-- R175: the status word. -/
def State.statusWord (s : State) : Word :=
  out (s.freeSlots + 256 * s.replies.length + 65536 * s.overrun.toNat
    + 131072 * s.interruptCondition.toNat)

/-- R180: the reply area shows the oldest reply, or zeros. -/
def State.replyArea (s : State) : Message := s.replies.headD zeroMessage

/-- R175: a read of the host window; it changes nothing. `none` where the window has nothing to read
(log entry 36). -/
def State.windowRead (s : State) (offset : Nat) : Option Word :=
  if offset < 32 then some (word s.postingArea offset)
  else if offset < 64 then some (word s.replyArea (offset - 32))
  else if offset = 64 then some s.statusWord
  else none

/-! ### Queues (07_shared_buffer_and_egress_queues.md) -/

/-- R120: the sum of the cells of the frames held. -/
def cellsOf (l : List QFrame) : Nat := (l.map QFrame.cells).sum

/-- R120: a queue's occupancy. -/
def State.occupancy (s : State) (p : Nat) (c : Cls) : Nat := cellsOf (s.queue p c)

/-- R121: a queue's state. -/
def Port.stateOf (r : Port) : Cls → QState
  | .c0 => .ready
  | .c1 => .ready
  | .c2 => r.c2State
  | .c3 => .ready

/-- R127: a queue has a startable frame when it holds a frame and is READY. -/
def Port.startable (r : Port) (c : Cls) : Bool := !(r.queues.get c).isEmpty && r.stateOf c == .ready

/-- R128: the class a rotation position belongs to. -/
def rotationClass (i : Fin 4) : Cls := if i = 3 then .c0 else .c1

/-- R128: the first position from `i` whose class has a startable frame, looking at each of the four
positions once. -/
def Port.rotationPick (r : Port) (i : Fin 4) : Option (Fin 4) :=
  [i, i + 1, i + 2, i + 3].find? fun j => r.startable (rotationClass j)

/-- R127, R128: the queue the next start takes from, and the rotation position after it. -/
def Port.startChoice (r : Port) : Option (Cls × Fin 4) :=
  if r.startable .c3 then some (.c3, r.rotation)
  else if r.startable .c2 then some (.c2, r.rotation)
  else (r.rotationPick r.rotation).map fun j => (rotationClass j, j + 1)

/-- R127, R138: a start is due: the transmitter is idle, the link is UP, no control message waits
(it goes first), and a frame is startable. -/
def Port.startDue (r : Port) : Bool :=
  r.transmitter == .idle && r.link == .up && r.slot.isNone && r.startChoice.isSome

/-- R138: a control message is due: the transmitter is idle, the link is UP and the slot is full. -/
def Port.controlDue (r : Port) : Bool := r.transmitter == .idle && r.link == .up && r.slot.isSome

/-- R129, R189: what the transmitter is putting on the wire. -/
def Port.onWire (r : Port) : Option (List Byte) :=
  match r.transmitter with
  | .idle => none
  | .frame c => (r.queues.get c).head?.map frameOnWire
  | .control m => some (pauseOnWire m)

/-! ### Stations, path sets and pins (04, 05, 06) -/

/-- R67: a downlink's flush is outstanding. -/
def State.flushOutstanding (s : State) (p : Nat) : Bool :=
  setHas s.jobs.ports p || setHas s.carried.ports p

/-- R16: a tenant's purge is outstanding. -/
def State.purgeOutstanding (s : State) (t : Nat) : Bool :=
  setHas s.jobs.tenants t || setHas s.carried.tenants t

/-- R63: the slots of a bucket, lowest way first. -/
def bucketSlots (b : Nat) : List Nat := [b * 4, b * 4 + 1, b * 4 + 2, b * 4 + 3]

/-- Whether a slot holds the entry for a key. -/
def holdsKey (t : Nat) (a : Addr) : Option Entry → Bool
  | some e => e.tenant == t && e.address == a
  | none => false

/-- R63: the slot of the entry for a key. -/
def State.findSlot (s : State) (t : Nat) (a : Addr) : Option Nat :=
  (bucketSlots (stationBucket t a)).find? fun i => holdsKey t a (s.station i)

/-- R63: the lowest free way of a key's bucket. -/
def State.freeSlot (s : State) (t : Nat) (a : Addr) : Option Nat :=
  (bucketSlots (stationBucket t a)).find? fun i => (s.station i).isNone

/-- The slot and the entry for a key. -/
def State.findEntry (s : State) (t : Nat) (a : Addr) : Option (Nat × Entry) :=
  match s.findSlot t a with
  | some i => (s.station i).map fun e => (i, e)
  | none => none

/-- R65: a target hits unless it is a downlink whose link is not UP. -/
def State.reachable (s : State) : Target → Bool
  | .downlink p => (s.port p).link == .up
  | .path _ => true

/-- R82: whether a member is usable. -/
def State.memberUsable (s : State) : Member → Bool
  | .uplink u => (s.port (32 + u)).link == .up && !(s.port (32 + u)).stormHold
  | .redirect _ => true

/-- The member a reference names now, if its index lies within the list (R80). -/
def State.memberAt (s : State) (pl : Place) : Option Member := (s.pathSet pl.set).members[pl.index]?

/-- R104: the uplink a place names now, none when it names a redirect or nothing. -/
def State.uplinkOf (s : State) (pl : Place) : Option (Fin 8) :=
  match s.memberAt pl with
  | some (.uplink u) => some u
  | some (.redirect _) => none
  | none => none

/-- R104: a place is usable when it names a usable UPLINK member. -/
def State.placeUsable (s : State) (pl : Place) : Bool :=
  match s.uplinkOf pl with
  | some u => s.memberUsable (.uplink u)
  | none => false

end Sys2Proof.Machine
end

