-- ==== Sys2Proof/Machine/Ops.lean ====
section
/-! DEFINITION. The shared operations: pending a notice, a frame leaving the buffer, the pause tests,
the storm timer, the flush, leaving and entering UP, the down effects, and the end of a request.
Every command that does one of these things does it here. -/

namespace Sys2Proof.Machine

/-- The outcome of a command. -/
abbrev Result := Host.Outcome State Fault Refusal

/-- A command at a port of the part; any other port number is refused (log entry 2). -/
def atPort (p : Nat) (f : State → State) (s : State) : Result :=
  if p < 40 then .next (f s) else .refused .illFormed

/-- Whether a timer's time is reached. -/
def reached (now : Nat) : Option Nat → Bool
  | some t => t ≤ now
  | none => false

/-- The µs that remain to a time, 0 when there is none. -/
def remaining (now : Nat) : Option Nat → Nat
  | some t => t - now
  | none => 0

/-! ### Notices -/

/-- R187: one message is sent by an event that turns the interrupt condition from not holding to
holding. -/
def sendInterrupt (before after : State) : State :=
  if !before.interruptCondition && after.interruptCondition then
    { after with interruptsSent := after.interruptsSent + 1 }
  else after

/-- R184, R187: a block pends a notice. -/
def pend (k : NoticeKind) (source : Nat) (s : State) : State :=
  sendInterrupt s (s.setNotices k (setInsert (s.noticeSet k) source))

/-- Pend one kind for each of several sources. -/
def pendAll (k : NoticeKind) (sources : NatSet) (s : State) : State :=
  sources.foldl (fun s x => pend k x s) s

/-! ### Jobs of the sweeper (R167) -/

def postAging (s : State) : State := { s with jobs := { s.jobs with aging := true } }

def postFlush (p : Nat) (s : State) : State :=
  { s with jobs := { s.jobs with ports := setInsert s.jobs.ports p } }

def postPurge (t : Nat) (s : State) : State :=
  { s with jobs := { s.jobs with tenants := setInsert s.jobs.tenants t } }

def postRebalance (n : Nat) (s : State) : State :=
  { s with jobs := { s.jobs with sets := setInsert s.jobs.sets n } }

/-! ### Tenant states -/

/-- R3: the derived state. -/
def derivedState (allowance overage ceiling : Nat) : TenantState :=
  if 0 < allowance then .active
  else if 0 < ceiling ∧ ceiling ≤ overage then .throttled
  else .overage

def Tenant.derived (r : Tenant) : TenantState := derivedState r.allowance r.overage r.ceiling

/-- R3: a tenant open for traffic is brought to its derived state; SUSPENDED and DRAINING stay. -/
def Tenant.rederive (r : Tenant) : Tenant :=
  if r.state.openForTraffic then { r with state := r.derived } else r

/-- R18: a DRAINING tenant whose purge has ended and whose in-buffer count is 0 becomes VACANT. -/
def becomeVacantIfDone (t : Nat) (s : State) : State :=
  if (s.tenant t).state = .draining ∧ (s.tenant t).inBuffer = 0 ∧ s.purgeOutstanding t = false then
    pend .purgeDone t (s.setTenant t vacantTenant)
  else s

/-! ### Pause control of one port (08) -/

/-- R135: the renewal interval. -/
def renewalInterval (quantum : Nat) : Nat := if quantum = 1 then 1 else quantum / 2

/-- R135, R136: a pause with the quantum is placed in the slot and the renewal time is set. -/
def Port.placePause (r : Port) (q : PauseSettings) (now : Nat) : Port :=
  { r with slot := some (.pause q.quantum), renewal := some (now + renewalInterval q.quantum) }

/-- R135: a FLOWING port whose link is UP and whose count is at or above pause-on enters PAUSING. -/
def Port.pauseOnTest (r : Port) (q : PauseSettings) (now : Nat) : Port :=
  if r.ingress = .flowing ∧ r.link = .up ∧ q.pauseOn ≤ r.losslessCount then
    { r with ingress := .pausing }.placePause q now
  else r

/-- R137: a PAUSING port whose count is at or below pause-off returns to FLOWING. -/
def Port.pauseOffTest (r : Port) (q : PauseSettings) : Port :=
  if r.ingress = .pausing ∧ r.losslessCount ≤ q.pauseOff then
    { r with ingress := .flowing, slot := some .resume, renewal := none }
  else r

/-- R139: the ingress side when the link leaves UP. -/
def Port.ingressCleared (r : Port) : Port :=
  { r with ingress := .flowing, renewal := none, slot := none }

/-- R143: the storm timer runs while the C2 queue is PAUSED and holds a frame. It starts when both
come to hold, and stops when either fails. -/
def Port.stormSync (r : Port) (budget now : Nat) : Port :=
  if r.c2State = .paused ∧ r.queues.c2 ≠ [] then
    match r.storm with
    | some _ => r
    | none => { r with storm := some ⟨now, now + 10000 * (budget + 1)⟩ }
  else { r with storm := none }

/-- R143 with the storm budget and the timebase as they stand. -/
def State.stormSync (s : State) (r : Port) : Port := r.stormSync s.linkSettings.stormBudget s.timebase

/-! ### A frame leaves its queue (R119, R4, R133) -/

/-- R133, R137: the lossless count of a C2 frame's ingress port falls by its cells. -/
def lowerLossless (f : QFrame) (s : State) : State :=
  if f.cls = .c2 then
    s.setPort f.ingress
      (Port.pauseOffTest
        { s.port f.ingress with losslessCount := (s.port f.ingress).losslessCount - f.cells }
        (s.pauseOf f.ingress))
  else s

/-- R119: a frame's cells return to the free count. -/
def returnCells (f : QFrame) (s : State) : State := { s with freeCount := s.freeCount + f.cells }

/-- R4, R18: the tenant's in-buffer count falls by 1. -/
def lowerInBuffer (t : Nat) (s : State) : State :=
  becomeVacantIfDone t (s.setTenant t { s.tenant t with inBuffer := (s.tenant t).inBuffer - 1 })

/-- R130 (abort), R131: what a frame that leaves uncharged gives back, once it is out of its queue. -/
def releaseFrame (f : QFrame) (s : State) : State :=
  lowerLossless f (lowerInBuffer f.tenant (returnCells f s))

/-- R130: the frame in transmission is ended early, removed and released; a control message on the wire
ends with the link (R139). The transmitter becomes idle. -/
def abortTransmission (p : Nat) (s : State) : State :=
  let r := s.port p
  match r.transmitter with
  | .idle => s
  | .control _ => s.setPort p { r with transmitter := .idle }
  | .frame c =>
    match r.queues.get c with
    | [] => s.setPort p { r with transmitter := .idle }
    | f :: rest =>
      releaseFrame f
        (s.setPort p (s.stormSync { r with queues := r.queues.set c rest, transmitter := .idle }))

/-- R131: every frame of a queue is discarded uncharged. -/
def flushQueue (p : Nat) (c : Cls) (s : State) : State :=
  let r := s.port p
  let emptied := { r with
    queues := r.queues.set c []
    transmitter := if r.transmitter = .frame c then .idle else r.transmitter }
  (r.queues.get c).foldl (fun s f => releaseFrame f s) (s.setPort p (s.stormSync emptied))

/-! ### The link (09) -/

/-- R155: the link leaves UP for state `l`. -/
def leaveUp (p : Nat) (l : LinkState) (s : State) : State :=
  abortTransmission p (s.setPort p { s.port p with link := l }.ingressCleared)

/-- R156: the link enters UP. -/
def enterUp (p : Nat) (s : State) : State :=
  s.setPort p (Port.pauseOnTest { s.port p with link := .up, debounceEnd := none, holdDownEnd := none }
    (s.pauseOf p) s.timebase)

/-- R157 step 2 and 3: every queue READY, and the ingress side FLOWING. -/
def Port.quieted (r : Port) : Port :=
  { r with c2State := .ready, pauseEnd := none, storm := none }.ingressCleared

/-- R157: the down effects. -/
def downEffects (p : Nat) (s : State) : State :=
  let s1 := flushQueue p .c3 (flushQueue p .c2 (flushQueue p .c1 (flushQueue p .c0 s)))
  let s2 := s1.setPort p (s1.port p).quieted
  let s3 := pend .linkDown p s2
  if p < 32 then postFlush p s3 else s3

/-- R158: an append to a flap history. -/
def flapAppend (history : List Nat) (now windowS : Nat) : List Nat :=
  let l := history.filter (fun t => now - t ≤ 1000000 * windowS) ++ [now]
  l.drop (l.length - 8)

/-- R159: the entries whose age is at or below the flap window. -/
def flapsInWindow (history : List Nat) (now windowS : Nat) : Nat :=
  (history.filter fun t => now - t ≤ 1000000 * windowS).length

/-- R159: the hold-down, the highest of the three candidates, in µs. -/
def holdDown (r : Port) (g : LinkSettings) (now : Nat) : Nat :=
  let base := 1000 * g.baseMs
  let penalty :=
    if g.threshold ≤ flapsInWindow r.flapHistory now g.windowS then 1000000 * g.penaltyS else 0
  max base (max penalty (remaining now r.recoveryEnd))

/-- R159: the entry into PROVING. -/
def enterProving (p : Nat) (s : State) : State :=
  s.setPort p { s.port p with
    link := .proving
    holdDownEnd := some (s.timebase + holdDown (s.port p) s.linkSettings s.timebase) }

/-- R151, R153: the entry into DOWN from SUSPECT or PROVING, with its append and the down effects. -/
def enterDown (p : Nat) (s : State) : State :=
  downEffects p (s.setPort p { s.port p with
    link := .down
    debounceEnd := none
    holdDownEnd := none
    flapHistory := flapAppend (s.port p).flapHistory s.timebase s.linkSettings.windowS })

/-! ### Copies in flight (R58 to R60) -/

/-- The next copy of the frame at place `k` among the frames in flight. -/
def State.nextCopy (s : State) (k : Nat) : Option Copy :=
  match s.inFlight[k]? with
  | some (c :: _) => some c
  | some [] => none
  | none => none

/-- The copies in flight without the next copy of frame `k`; a frame with none left is gone. -/
def dropCopy : List (List Copy) → Nat → List (List Copy)
  | [], _ => []
  | f :: rest, 0 =>
    match f with
    | _ :: c :: more => (c :: more) :: rest
    | _ => rest
  | f :: rest, k + 1 => f :: dropCopy rest k

/-- The copies in flight with the next copy of frame `k` bound for `d`. -/
def redirectCopy : List (List Copy) → Nat → Dest → List (List Copy)
  | [], _, _ => []
  | f :: rest, 0, d =>
    match f with
    | c :: more => ({ c with dest := d } :: more) :: rest
    | [] => [] :: rest
  | f :: rest, k + 1, d => f :: redirectCopy rest k d

/-- R84, R124: a copy is dropped silently. -/
def State.dropNext (s : State) (k : Nat) : State := { s with inFlight := dropCopy s.inFlight k }

/-- R88: a copy is handed to admission at an uplink's queue. -/
def State.handOver (s : State) (k : Nat) (u : Fin 8) : State :=
  { s with inFlight := redirectCopy s.inFlight k (.uplink u) }

/-! ### Requests (R179, R181) -/

/-- What a request answers: its status, its reply body and the state its effect leaves. -/
structure Answer where
  status : Status
  body : List Word
  state : State

/-- R179: a refused request changes nothing and its reply has an empty body. -/
def refuseWith (st : Status) (s : State) : Answer := { status := st, body := [], state := s }

/-- DONE, or DONE_CLAMPED when a clamp applied. -/
def doneStatus (clamped : Bool) : Status := if clamped then .doneClamped else .done

/-- R179, R188: the effect event ends the execution; the reply is appended, or discarded when a control
reset came during the execution. -/
def finishRequest (e : Execution) (a : Answer) : State :=
  { a.state with
    execution := none
    replies :=
      if e.keepReply then a.state.replies ++ [replyTo e.message a.status a.body] else a.state.replies }

/-- R179: the effect event of the request in execution, when its message is one that `mine` takes.
With no such request in execution the event does not occur (log entries 1 and 27). -/
def effectEvent (mine : Message → Bool) (effect : Message → State → Answer) (s : State) : Result :=
  match s.execution with
  | some e => if mine e.message then .next (finishRequest e (effect e.message s)) else .next s
  | none => .next s

/-- R182: the messages of one kind number. -/
def ofKind (n : Nat) (m : Message) : Bool := kindOf m == n

/-- A draw of a free value has been made (log entry 26). -/
def State.drawn (s : State) (used : Bool) : State := if used then { s with draws := s.draws + 1 } else s

end Sys2Proof.Machine
end

