-- ==== Sys2Proof/Machine/Charging.lean ====
section
/-! DEFINITION. The charge taken at a completion, the Time Base's two events, and the clock requests
(02_charging.md). -/

namespace Sys2Proof.Machine

/-- R28: the multiplier M that applies to a class (R27). -/
def Profile.multiplierFor (r : Profile) : Cls → Nat
  | .c0 => if r.mapC0 then r.multiplier else 1
  | .c1 => if r.mapC1 then r.multiplier else 1
  | .c2 => r.multiplier
  | .c3 => if r.mapC3 then r.multiplier else 1

/-- 00_scope.md "Time": the hour slot. -/
def Clock.hourSlot (c : Clock) : Nat := c.minute / 60

/-- R27: the surcharge S that applies now. -/
def Profile.surchargeAt (r : Profile) (c : Clock) : Nat :=
  if c.valid && r.peakHours.getLsbD c.hourSlot then r.surcharge else 0

/-- R28: the product L × r × M × (8 + S). -/
def chargeProduct (r : Profile) (clk : Clock) (c : Cls) (len : Nat) : Nat :=
  len * r.rates.get c * r.multiplierFor c * (8 + r.surchargeAt clk)

/-- A value held at its maximum (00_scope.md "Charge units"). -/
def addSaturating (limit a b : Nat) : Nat := min limit (a + b)

/-- R31: whether adding passes the maximum. -/
def saturates (limit a b : Nat) : Bool := limit < a + b

/-- What a charge leaves: the record, and the notices it pends. -/
structure Charged where
  record : Tenant
  /-- R32: the allowance was above 0 and is 0. -/
  crossedAllowance : Bool
  /-- R34: the overage was below a ceiling above 0 and is at or above it. -/
  crossedCeiling : Bool
  /-- R31, R33: a meter or the overage accumulator saturated. -/
  saturatedNow : Bool
  deriving DecidableEq, Repr

/-- R28: the units of a charge. -/
def chargeUnits (product residue : Nat) : Nat := (residue + product) / 8388608

/-- R28: the new residue. -/
def chargeResidue (product residue : Nat) : Nat := (residue + product) % 8388608

/-- R28 to R36: the four steps of a charge of a frame of `len` bytes in class `c`. -/
def chargeRecord (r : Tenant) (product : Nat) (c : Cls) (len : Nat) : Charged :=
  let m := r.meters.get c
  let units := chargeUnits product m.residue
  let drawnUnits := min r.allowance units
  let rest := units - drawnUnits
  let allowance := r.allowance - drawnUnits
  let overage := addSaturating Config.max40 r.overage rest
  let sat := saturates Config.max48 m.bytes len || saturates Config.max40 m.frames 1
    || saturates Config.max48 m.accrued units || saturates Config.max40 r.overage rest
  { record :=
      { r with
        meters := r.meters.set c
          { bytes := addSaturating Config.max48 m.bytes len
            frames := addSaturating Config.max40 m.frames 1
            accrued := addSaturating Config.max48 m.accrued units
            residue := chargeResidue product m.residue }
        allowance := allowance
        overage := overage
        saturated := r.saturated || sat }.rederive
    crossedAllowance := decide (0 < r.allowance) && allowance == 0
    crossedCeiling := decide (0 < r.ceiling) && decide (r.overage < r.ceiling) && decide (r.ceiling ≤ overage)
    saturatedNow := sat }

/-- A notice of a charge, when the charge raises it. -/
def pendIf (b : Bool) (k : NoticeKind) (t : Nat) (s : State) : State := if b then pend k t s else s

/-- R25: the charge of one frame falls on the record, with its notices. -/
def chargeFrame (t : Nat) (c : Cls) (len : Nat) (s : State) : State :=
  let r := s.tenant t
  let x := chargeRecord r (chargeProduct (s.profile r.profile) s.clock c len) c len
  pendIf x.crossedAllowance .tenantOverage t
    (pendIf x.crossedCeiling .tenantThrottled t
      (pendIf x.saturatedNow .meterSaturated t (s.setTenant t x.record)))

/-- R24: the charge check. -/
def chargeCheck (f : QFrame) (s : State) : State :=
  if !f.uncharged && (s.tenant f.tenant).state.inContract then chargeFrame f.tenant f.cls f.len s else s

/-- AGING_POSTING (R38): each whole multiple of 10 s of timebase posts the AGING job. -/
def execAgingPosting (s : State) : Result :=
  .next (if s.nextAging ≤ s.timebase then
      postAging { s with nextAging := Config.agingPeriod + s.nextAging }
    else s)

/-- R39: the clock one minute on. -/
def Clock.advanced (c : Clock) : Clock :=
  { c with
    minute := (c.minute + 1) % 1440
    nextAdvance := c.nextAdvance.map (Config.minuteMicros + ·) }

/-- R39: the clock's advance is due. -/
def State.advanceDue (s : State) : Bool := s.clock.valid && reached s.timebase s.clock.nextAdvance

/-- CLOCK_ADVANCE (R39). -/
def execClockAdvance (s : State) : Result :=
  .next (if s.advanceDue then { s with clock := s.clock.advanced } else s)

/-- R40. -/
def clockSetEffect (m : Message) (s : State) : Answer :=
  if 1440 ≤ num m 1 then refuseWith .malformed s
  else
    { status := .done
      body := [out (num m 1)]
      state := { s with
        clock := { valid := true, minute := num m 1,
                   nextAdvance := some (Config.minuteMicros + s.timebase) } } }

/-- CLOCK_SET (R40), kind 11. -/
def execClockSet (s : State) : Result := effectEvent (ofKind 11) clockSetEffect s

/-- R41: while the flag is clear the minute, hour slot and remaining time are 0. -/
def clockReadEffect (_m : Message) (s : State) : Answer :=
  { status := .done
    body :=
      (if s.clock.valid then
        [outFlag true, out s.clock.minute, out s.clock.hourSlot,
          out (remaining s.timebase s.clock.nextAdvance)]
      else [outFlag false, 0#32, 0#32, 0#32]) ++ out2 s.timebase
    state := s }

/-- CLOCK_READ (R41), kind 12. -/
def execClockRead (s : State) : Result := effectEvent (ofKind 12) clockReadEffect s

end Sys2Proof.Machine
end

