-- ==== Sys2Proof/Machine/Egress.lean ====
section
/-! DEFINITION. ADMISSION, TRANSMISSION_START, TRANSMISSION_COMPLETION, POLICY_WRITE and QUEUE_READ
(07_shared_buffer_and_egress_queues.md). -/

namespace Sys2Proof.Machine

/-! ### Admission -/

/-- R58, R88: the port whose queue a copy is offered to, once it needs no resolution. -/
def Dest.egressPort : Dest → Option (Fin 40)
  | .downlink q => some ⟨q.val, by omega⟩
  | .uplink u => some ⟨32 + u.val, by omega⟩
  | .resolve _ => none

/-- R124: the six tests; the copy passes when none drops it. -/
def State.admits (s : State) (c : Copy) (p : Nat) : Bool :=
  let pol := s.policy (kindOfPort p)
  ((s.port p).link == .up) &&
  decide (c.cells ≤ s.freeCount) &&
  (c.cls == .c2 || decide (s.occupancy p c.cls + c.cells ≤ (pol c.cls).drop)) &&
  (!c.throttled || decide (s.occupancy p .c0 + c.cells ≤ (pol .c0).throttle)) &&
  !((s.port p).stateOf c.cls == .stalled) &&
  !((s.tenant c.tenant).state == .vacant)

/-- R120, R125: the queued frame of an admitted copy. -/
def queuedFrame (c : Copy) (uncharged : Bool) : QFrame :=
  { tenant := c.tenant, cls := c.cls, len := c.len, cells := c.cells, ingress := c.ingress,
    markCapable := c.markCapable, tag := c.tag, uncharged := uncharged, data := c.data }

/-- R125, R133, R135: a C2 copy raises its ingress port's lossless count. -/
def raiseLossless (c : Copy) (s : State) : State :=
  if c.cls = .c2 then
    s.setPort c.ingress
      (Port.pauseOnTest
        { s.port c.ingress with losslessCount := (s.port c.ingress).losslessCount + c.cells }
        (s.pauseOf c.ingress) s.timebase)
  else s

/-- R125: the copy joins the tail of queue (p, class), with the storm timer's test (R143). -/
def enqueue (c : Copy) (p : Nat) (s : State) : State :=
  let f := queuedFrame c ((s.tenant c.tenant).state == .draining)
  let r := s.port p
  s.setPort p (s.stormSync { r with queues := r.queues.set c.cls (r.queues.get c.cls ++ [f]) })

/-- R4, R119, R125: the copy's cells leave the free count and its tenant counts it. -/
def takeRoom (c : Copy) (s : State) : State :=
  { s with freeCount := s.freeCount - c.cells }.setTenant c.tenant
    { s.tenant c.tenant with inBuffer := (s.tenant c.tenant).inBuffer + 1 }

/-- R125. -/
def admitCopy (c : Copy) (p : Nat) (s : State) : State := raiseLossless c (takeRoom c (enqueue c p s))

/-- ADMISSION (R124): the next copy of frame `k` in flight, when it names a queue. -/
def execAdmission (k : Nat) (s : State) : Result :=
  .next (match s.nextCopy k with
    | some c =>
      match c.dest.egressPort with
      | some p => if s.admits c p then admitCopy c p (s.dropNext k) else s.dropNext k
      | none => s
    | none => s)

/-! ### Transmission -/

/-- R129: the frame as marked at its start. -/
def QFrame.marked (f : QFrame) : QFrame := { f with tag := { f.tag with mark := true } }

/-- R129: the queue with its oldest frame marked, when it is mark-capable and the queue is at or above
the mark threshold. -/
def markHead (threshold : Nat) : List QFrame → List QFrame
  | [] => []
  | f :: rest =>
    if f.markCapable = true ∧ threshold ≤ cellsOf (f :: rest) then f.marked :: rest else f :: rest

/-- R127 to R129: the start of the oldest frame of queue `c`, with the rotation position after it. -/
def startFrom (p : Nat) (c : Cls) (rotation : Fin 4) (s : State) : State :=
  let r := s.port p
  s.setPort p { r with
    queues := r.queues.set c (markHead (s.policy (kindOfPort p) c).mark (r.queues.get c))
    transmitter := .frame c
    rotation := rotation }

/-- R127: a start, when one is due. -/
def transmissionStart (p : Nat) (s : State) : State :=
  if (s.port p).startDue then
    match (s.port p).startChoice with
    | some (c, i) => startFrom p c i s
    | none => s
  else s

/-- TRANSMISSION_START (R127). -/
def execTransmissionStart (p : Nat) (s : State) : Result := atPort p (transmissionStart p) s

/-- R130: what the completion of a frame gives back and charges, once it is out of its queue. -/
def completeFrame (f : QFrame) (s : State) : State :=
  lowerLossless f (chargeCheck f (lowerInBuffer f.tenant (returnCells f s)))

/-- R130 (completion): the frame in transmission leaves the head of its queue, is released and is
handed to the Charging Unit; the transmitter becomes idle. -/
def transmissionCompletion (p : Nat) (s : State) : State :=
  let r := s.port p
  match r.transmitter with
  | .idle => s
  | .control _ => s
  | .frame c =>
    match r.queues.get c with
    | [] => s
    | f :: rest =>
      completeFrame f
        (s.setPort p (s.stormSync { r with queues := r.queues.set c rest, transmitter := .idle }))

/-- TRANSMISSION_COMPLETION (R130). -/
def execTransmissionCompletion (p : Nat) (s : State) : Result := atPort p (transmissionCompletion p) s

/-! ### POLICY_WRITE and QUEUE_READ -/

/-- R122: whether a record holds a drop threshold. -/
def holdsDrop (c : Cls) : Bool := c != .c2

/-- R122: whether a record holds a re-steer threshold. -/
def holdsResteer (k : PortKind) : Bool := k == .uplink

/-- R122: whether a record holds a throttle admit threshold. -/
def holdsThrottle (c : Cls) : Bool := c == .c0

/-- R123: a value above 98,304 is stored as 98,304. -/
def clampCells (n : Nat) : Nat := min 98304 n

/-- R123: the fields that the record of this kind and class holds take their values. -/
def policyWritten (old : Policy) (k : PortKind) (c : Cls) (mark drop resteer throttle : Nat) : Policy :=
  { mark := clampCells mark
    drop := if holdsDrop c then clampCells drop else old.drop
    resteer := if holdsResteer k then clampCells resteer else old.resteer
    throttle := if holdsThrottle c then clampCells throttle else old.throttle }

/-- R123: a stored value was clamped. -/
def policyClamped (k : PortKind) (c : Cls) (mark drop resteer throttle : Nat) : Bool :=
  decide (98304 < mark) || (holdsDrop c && decide (98304 < drop))
    || (holdsResteer k && decide (98304 < resteer)) || (holdsThrottle c && decide (98304 < throttle))

/-- R123, R132: a record's thresholds, 0 in the place of each field it does not hold. -/
def policyWords (r : Policy) (k : PortKind) (c : Cls) : List Word :=
  [out r.mark, if holdsDrop c then out r.drop else 0#32, if holdsResteer k then out r.resteer else 0#32,
    if holdsThrottle c then out r.throttle else 0#32]

def State.setPolicy (s : State) (k : PortKind) (c : Cls) (r : Policy) : State :=
  { s with policies := s.policies.set k ((s.policies.get k).set c r) }

/-- R123: words 1 to 6 are the port kind, the class and the four thresholds. -/
def policyWriteEffect (m : Message) (s : State) : Answer :=
  match portKindOf (num m 1), Cls.ofNumber (num m 2) with
  | some k, some c =>
    let r := policyWritten (s.policy k c) k c (num m 3) (num m 4) (num m 5) (num m 6)
    { status := doneStatus (policyClamped k c (num m 3) (num m 4) (num m 5) (num m 6))
      body := policyWords r k c
      state := s.setPolicy k c r }
  | _, _ => refuseWith .malformed s

/-- POLICY_WRITE (R123), kind 20. -/
def execPolicyWrite (s : State) : Result := effectEvent (ofKind 20) policyWriteEffect s

/-- R132: the frame of queue (p, c) in transmission. -/
def Port.sending (r : Port) (c : Cls) : Option QFrame :=
  if r.transmitter = .frame c then (r.queues.get c).head? else none

/-- R132: the remaining pause of a queue, 0 unless it is PAUSED. -/
def State.remainingPause (s : State) (p : Nat) (c : Cls) : Nat :=
  if (s.port p).stateOf c = .paused then remaining s.timebase (s.port p).pauseEnd else 0

/-- R132: words 1 and 2 are the port and the class. -/
def queueReadEffect (m : Message) (s : State) : Answer :=
  match Cls.ofNumber (num m 2) with
  | none => refuseWith .malformed s
  | some c =>
    if 40 ≤ num m 1 then refuseWith .malformed s
    else
      let p := num m 1
      let r := s.port p
      { status := .done
        body :=
          [out (s.occupancy p c), out (s.queue p c).length, out (r.stateOf c).number,
            out (s.remainingPause p c)]
          ++ (match r.sending c with
            | some f => [outFlag true, out f.cells, out f.tenant]
            | none => [outFlag false, 0#32, 0#32])
          ++ [out r.rotation]
          ++ policyWords (s.policy (kindOfPort p) c) (kindOfPort p) c
          ++ [out s.freeCount]
        state := s }

/-- QUEUE_READ (R132), kind 21. -/
def execQueueRead (s : State) : Result := effectEvent (ofKind 21) queueReadEffect s

end Sys2Proof.Machine
end

