-- ==== Sys2Proof/Machine/Intake.lean ====
section
/-! DEFINITION. FRAME_TAKEN: the port block's discard, Intake's checks, the class decision, learning,
lookup and the copies (03_frame_intake.md; learning and lookup 04_station_table.md). -/

namespace Sys2Proof.Machine

/-- R45: the four checks. -/
def State.accepts (s : State) (p : Fin 40) (bytes : List Byte) : Bool :=
  let f := readFrame bytes
  (64 ≤ bytes.length && bytes.length ≤ 9216) &&
  f.tagType == 0xB7A4 &&
  (s.tenant f.tenant).state.openForTraffic &&
  (32 ≤ p.val || (s.tenant f.tenant).portSet.getLsbD p.val)

/-- R47: the queued class and the throttled flag. -/
def State.classDecision (s : State) (t : Nat) (requested : Cls) : Cls × Bool :=
  match (s.tenant t).state with
  | .overage => ((s.profile (s.tenant t).profile).demotion.get requested, false)
  | .throttled => (if requested = .c3 then .c3 else .c0, true)
  | .active => (requested, false)
  | .vacant => (requested, false)
  | .suspended => (requested, false)
  | .draining => (requested, false)

/-- R69: a new LEARNED entry for the key, when the bucket has a free way and the tenant's count is
below its limit. -/
def learnNew (t : Nat) (a : Addr) (q : Fin 32) (s : State) : State :=
  match s.freeSlot t a with
  | none => s
  | some i =>
    if (s.tenant t).stationCount < (s.tenant t).stationLimit then
      (s.setStation i (some
        { tenant := t, address := a, kind := .learned, target := .downlink q, lastSeen := s.second })).setTenant t
        { s.tenant t with stationCount := (s.tenant t).stationCount + 1 }
    else s

/-- R68: learn source `a` for tenant `t` on downlink `q`. -/
def learn (t : Nat) (a : Addr) (q : Fin 32) (s : State) : State :=
  match s.findEntry t a with
  | none => if s.flushOutstanding q then s else learnNew t a q s
  | some (i, e) =>
    match e.kind with
    | .static => s
    | .learned =>
      if e.target = .downlink q then s.setStation i (some { e with lastSeen := s.second })
      else if s.flushOutstanding q then s
      else s.setStation i (some { e with target := .downlink q, lastSeen := s.second })

/-- R52: learning is asked for on an accepted frame from a downlink with a unicast source. -/
def learnSource (p : Fin 40) (f : FrameFields) (s : State) : State :=
  if h : p.val < 32 then (if isGroup f.src then s else learn f.tenant f.src ⟨p.val, h⟩ s) else s

/-- R65, R53: the target that a lookup hits, or a miss. -/
def State.lookup (s : State) (t : Nat) (a : Addr) : Option Target :=
  match s.findEntry t a with
  | some (_, e) => if s.reachable e.target then some e.target else none
  | none => none

/-- R53: a group destination is not looked up. -/
def State.classify (s : State) (f : FrameFields) : Option Target :=
  if isGroup f.dst then none else s.lookup f.tenant f.dst

/-- R54 to R56: the downlinks of a flood, in increasing port number: those in the tenant's port set
whose link is UP, other than the ingress port. -/
def State.floodPorts (s : State) (t : Nat) (p : Fin 40) : List (Fin 32) :=
  (List.finRange 32).filter fun q =>
    (s.tenant t).portSet.getLsbD q.val && (s.port q).link == .up && q.val != p.val

/-- R54, R55, R59: where the copies of an accepted frame go, in the order they are handed on. -/
def State.destinations (s : State) (p : Fin 40) (f : FrameFields) : List Dest :=
  match s.classify f with
  | some (.downlink q) => if q.val = p.val then [] else [.downlink q]
  | some (.path n) => if p.val < 32 then [.resolve n] else []
  | none =>
    (s.floodPorts f.tenant p).map .downlink ++
      (if p.val < 32 then
        match (s.tenant f.tenant).defaultPath with
        | some n => [.resolve n]
        | none => []
      else [])

/-- R58: the copy record for one destination. -/
def copyRecord (p : Fin 40) (bytes : List Byte) (cls : Cls) (throttled : Bool) (d : Dest) : Copy :=
  let f := readFrame bytes
  let h := flowHash f.tenant f.dst f.src f.label
  { dest := d, tenant := f.tenant, cls := cls, throttled := throttled, len := bytes.length,
    cells := (bytes.length + 255) / 256, ingress := p, markCapable := f.markCapable,
    pinSlot := h.toNat % 8192, pinCheck := h.extractLsb' 16 16, hashHigh := h.toNat / 8192,
    tag := { tenant := f.tenant, cls := cls, markCapable := f.markCapable, mark := f.mark,
             label := f.label },
    data := bytes }

/-- R59: the copies of a frame are handed on together; a frame with none is dropped (R57). -/
def State.handOn (s : State) (copies : List Copy) : State :=
  match copies with
  | [] => s
  | c :: more => { s with inFlight := s.inFlight ++ [c :: more] }

/-- R45 to R59: Intake's work on an accepted frame. -/
def intake (p : Fin 40) (bytes : List Byte) (s : State) : State :=
  let f := readFrame bytes
  let decision := s.classDecision f.tenant f.cls
  let s1 := learnSource p f s
  s1.handOn ((s1.destinations p f).map (copyRecord p bytes decision.1 decision.2))

/-- R43: a received frame is handed to Intake when its check sequence is right, it is no pause message
and the port's link is UP. -/
def State.delivers (s : State) (p : Nat) (checkGood : Bool) (bytes : List Byte) : Bool :=
  checkGood && !isPauseMessage bytes && (s.port p).link == .up

/-- FRAME_TAKEN (R43). A frame that is discarded or dropped leaves no trace. -/
def execFrameTaken (p : Nat) (checkGood : Bool) (bytes : List Byte) (s : State) : Result :=
  if h : p < 40 then
    .next (if s.delivers p checkGood bytes && s.accepts ⟨p, h⟩ bytes then intake ⟨p, h⟩ bytes s else s)
  else .refused .illFormed

end Sys2Proof.Machine
end

