-- ==== Sys2Proof/Machine/Lifecycle.lean ====
section
/-! DEFINITION. POWER_ON and CONTROL_RESET. -/

namespace Sys2Proof.Machine

/-- POWER_ON: every record, table, queue, timer, setting and link monitor takes its power-on value (R1
and the power-on sentence of each record's rule). The commands that wait stay. -/
def execPowerOn (s : State) : Result := .next { State.reset with pending := s.pending }

/-- CONTROL_RESET (R188): both queues and the posting area are emptied, the overrun flag is cleared,
every pending set is emptied and every kind masked. A request in execution goes on, and its reply
will be discarded. -/
def execControlReset (s : State) : Result :=
  .next { s with
    requests := []
    replies := []
    postingArea := zeroMessage
    overrun := false
    notices := []
    masks := allMasked
    execution := s.execution.map fun e => { e with keepReply := false } }

end Sys2Proof.Machine
end

