-- ==== Sys2Proof/Machine/Link.lean ====
section
/-! DEFINITION. The link monitor's events and the link requests (09_link_monitor_and_fault_recovery.md). -/

namespace Sys2Proof.Machine

/-- R151: what a lane loss does in each link state, once the lane status is LOST. -/
def laneLossEffect (p : Nat) (s : State) : State :=
  match (s.port p).link with
  | .up =>
    leaveUp p .suspect
      (s.setPort p { s.port p with
        debounceEnd := some (s.timebase + 1000 * s.linkSettings.debounceMs) })
  | .proving => enterDown p s
  | .adminDown => s
  | .suspect => s
  | .down => s

/-- R151: a lane loss is the change of the lane status from LOCKED to LOST (log entry 35). -/
def laneLoss (p : Nat) (s : State) : State :=
  if (s.port p).lane = .locked then
    laneLossEffect p (s.setPort p { s.port p with lane := .lost })
  else s

/-- LANE_LOSS (R151). -/
def execLaneLoss (p : Nat) (s : State) : Result := atPort p (laneLoss p) s

/-- R152: what a lane lock does in each link state, once the lane status is LOCKED. -/
def laneLockEffect (p : Nat) (s : State) : State :=
  match (s.port p).link with
  | .suspect => enterUp p s
  | .down => enterProving p s
  | .adminDown => s
  | .up => s
  | .proving => s

/-- R152: a lane lock is the change of the lane status from LOST to LOCKED (log entry 35). -/
def laneLock (p : Nat) (s : State) : State :=
  if (s.port p).lane = .lost then
    laneLockEffect p (s.setPort p { s.port p with lane := .locked })
  else s

/-- LANE_LOCK (R152). -/
def execLaneLock (p : Nat) (s : State) : Result := atPort p (laneLock p) s

/-- R153: a port's debounce expiry is due. -/
def Port.debounceDue (r : Port) (now : Nat) : Bool := r.link == .suspect && reached now r.debounceEnd

/-- R153. -/
def debounceExpiry (p : Nat) (s : State) : State :=
  if (s.port p).debounceDue s.timebase then enterDown p s else s

/-- DEBOUNCE_EXPIRY (R153). -/
def execDebounceExpiry (p : Nat) (s : State) : Result := atPort p (debounceExpiry p) s

/-- R154: a port's hold-down expiry is due. -/
def Port.holdDownDue (r : Port) (now : Nat) : Bool := r.link == .proving && reached now r.holdDownEnd

/-- R154. -/
def holdDownExpiry (p : Nat) (s : State) : State :=
  if (s.port p).holdDownDue s.timebase then pend .linkUp p (enterUp p s) else s

/-- HOLD_DOWN_EXPIRY (R154). -/
def execHoldDownExpiry (p : Nat) (s : State) : Result := atPort p (holdDownExpiry p) s

/-! ### LINK_ADMIN -/

/-- R161: the state becomes ADMIN_DOWN from SUSPECT or PROVING, its end none, with the down effects. -/
def adminDownHeld (p : Nat) (s : State) : State :=
  downEffects p (s.setPort p { s.port p with link := .adminDown, debounceEnd := none, holdDownEnd := none })

/-- R161: LINK_ADMIN down on a port. -/
def adminDown (p : Nat) (s : State) : State :=
  match (s.port p).link with
  | .up => downEffects p (leaveUp p .adminDown s)
  | .suspect => adminDownHeld p s
  | .proving => adminDownHeld p s
  | .down => s.setPort p { s.port p with link := .adminDown }
  | .adminDown => s

/-- R162: LINK_ADMIN up on a port. -/
def adminUp (p : Nat) (s : State) : State :=
  match (s.port p).link with
  | .adminDown =>
    match (s.port p).lane with
    | .locked => enterProving p s
    | .lost => s.setPort p { s.port p with link := .down }
  | .up => s
  | .suspect => s
  | .down => s
  | .proving => s

/-- R161, R162: the reply carries the state before and the state after. -/
def linkAdminAnswer (p : Nat) (s after : State) : Answer :=
  { status := .done
    body := [out (s.port p).link.number, out (after.port p).link.number]
    state := after }

/-- R161: words 1 and 2 are the port and the direction, down 0 and up 1. A direction that is neither is
refused here (log entry 17). -/
def linkAdminDownEffect (m : Message) (s : State) : Answer :=
  if 40 ≤ num m 1 ∨ num m 2 ≠ 0 then refuseWith .malformed s
  else linkAdminAnswer (num m 1) s (adminDown (num m 1) s)

/-- R162. -/
def linkAdminUpEffect (m : Message) (s : State) : Answer :=
  if 40 ≤ num m 1 then refuseWith .malformed s
  else linkAdminAnswer (num m 1) s (adminUp (num m 1) s)

/-- LINK_ADMIN_DOWN (R161), kind 24 with a direction other than up. -/
def execLinkAdminDown (s : State) : Result :=
  effectEvent (fun m => ofKind 24 m && num m 2 != 1) linkAdminDownEffect s

/-- LINK_ADMIN_UP (R162), kind 24 with the direction up. -/
def execLinkAdminUp (s : State) : Result :=
  effectEvent (fun m => ofKind 24 m && num m 2 == 1) linkAdminUpEffect s

/-! ### LINK_TIMING and LINK_READ -/

/-- A value held between two bounds. -/
def clampBetween (lo hi n : Nat) : Nat := max lo (min hi n)

/-- R163: the seven settings as stored, from words 1 to 7. -/
def linkStored (m : Message) : LinkSettings :=
  { debounceMs := clampBetween 1 1000 (num m 1)
    baseMs := clampBetween 0 60000 (num m 2)
    penaltyS := clampBetween 0 600 (num m 3)
    threshold := clampBetween 1 8 (num m 4)
    windowS := clampBetween 1 3600 (num m 5)
    stormBudget := clampBetween 0 255 (num m 6)
    recoveryMs := clampBetween 100 60000 (num m 7) }

/-- The seven settings, in R163's order. -/
def LinkSettings.values (g : LinkSettings) : List Nat :=
  [g.debounceMs, g.baseMs, g.penaltyS, g.threshold, g.windowS, g.stormBudget, g.recoveryMs]

/-- The seven values given, in R163's order. -/
def linkGiven (m : Message) : List Nat :=
  [num m 1, num m 2, num m 3, num m 4, num m 5, num m 6, num m 7]

/-- R163. -/
def linkTimingEffect (m : Message) (s : State) : Answer :=
  { status := doneStatus ((linkStored m).values != linkGiven m)
    body := (linkStored m).values.map out
    state := { s with linkSettings := linkStored m } }

/-- LINK_TIMING (R163), kind 25. -/
def execLinkTiming (s : State) : Result := effectEvent (ofKind 25) linkTimingEffect s

/-- A lane status, by its position in R150's list (log entry 10). -/
def LaneStatus.number : LaneStatus → Nat
  | .locked => 0
  | .lost => 1

/-- R164, R190: word 1 of the reply packs the link state, the lane status and the storm hold; the flap
history has eight fixed places of two words, so that the reply fills words 1 to 31. -/
def linkReadEffect (m : Message) (s : State) : Answer :=
  if 40 ≤ num m 1 then refuseWith .malformed s
  else
    let r := s.port (num m 1)
    { status := .done
      body :=
        [out (r.link.number + 256 * r.lane.number + 65536 * r.stormHold.toNat),
          out (remaining s.timebase r.debounceEnd), out (remaining s.timebase r.holdDownEnd),
          out (remaining s.timebase r.recoveryEnd), out r.flapHistory.length]
        ++ eightSlots [0#32, 0#32] out2 r.flapHistory
        ++ [out (flapsInWindow r.flapHistory s.timebase s.linkSettings.windowS)]
        ++ s.linkSettings.values.map out
        ++ out2 s.timebase
      state := s }

/-- LINK_READ (R164), kind 26. -/
def execLinkRead (s : State) : Result := effectEvent (ofKind 26) linkReadEffect s

end Sys2Proof.Machine
end

