-- ==== Sys2Proof/Machine/Notices.lean ====
section
/-! DEFINITION. NOTICE_FETCH and NOTICE_MASK (11_request_port_notices_and_formats.md, 11.4). -/

namespace Sys2Proof.Machine

/-- R185: a kind is eligible. -/
def State.eligible (s : State) (includeMasked : Bool) (k : NoticeKind) : Bool :=
  !(s.noticeSet k).isEmpty && (includeMasked || !s.masked k)

/-- R185: the eligible kind of highest priority and its lowest source. -/
def State.nextNotice (s : State) (includeMasked : Bool) : Option (NoticeKind × Nat) :=
  match noticeKinds.find? (s.eligible includeMasked) with
  | some k => (s.noticeSet k).min?.map fun x => (k, x)
  | none => none

/-- R185, R192. -/
def noticeFetchEffect (m : Message) (s : State) : Answer :=
  let s0 := s.drawn (isOddFlag m 1)
  match s.nextNotice (flagField s.draws m 1) with
  | some (k, x) =>
    let s1 := s0.setNotices k (setErase (s.noticeSet k) x)
    { status := .done
      body := [out k.number, out x, out (s1.noticeSet k).length, out s1.pendingSummary,
        out s.masks.toNat]
      state := s1 }
  | none =>
    { status := .done
      body := [0#32, 0#32, 0#32, out s.pendingSummary, out s.masks.toNat]
      state := s0 }

/-- NOTICE_FETCH (R185), kind 28. -/
def execNoticeFetch (s : State) : Result := effectEvent (ofKind 28) noticeFetchEffect s

/-- R186, R187: each kind's mask flag takes the value given; unmasking may turn the interrupt condition. -/
def noticeMaskEffect (m : Message) (s : State) : Answer :=
  let s1 := sendInterrupt s { s with masks := (word m 1).extractLsb' 0 11 }
  { status := .done, body := [out s1.masks.toNat, out s1.pendingSummary], state := s1 }

/-- NOTICE_MASK (R186), kind 29. -/
def execNoticeMask (s : State) : Result := effectEvent (ofKind 29) noticeMaskEffect s

end Sys2Proof.Machine
end

