-- ==== Sys2Proof/Machine/PathSets.lean ====
section
/-! DEFINITION. PATHSET_WRITE and PATHSET_READ (05_path_sets_and_resolution.md, 5.6). -/

namespace Sys2Proof.Machine

/-- R94: the record of a request, `none` when R94 refuses it: words 1 to 16 are the set number, the
mode, the member count, eight member fields, the fallback and the four gaps. -/
def pathSetOf (d : Nat) (m : Message) : Option PathSet :=
  if 64 ≤ num m 1 ∨ 8 < num m 3 then none
  else
    match modeOf (num m 2), membersOf m 4 (num m 3), optionalSet m 12 with
    | some mode, some members, some fallback =>
      some { mode := mode, members := members, fallback := fallback, cursor := 0,
             flowlet := field16 d m 13, restore := field16 d m 14, setchange := field16 d m 15,
             lossless := field16 d m 16 }
    | _, _, _ => none

/-- R95: the whole record is replaced, the cursor is 0 and SET_REBALANCE is posted. -/
def pathsetWriteEffect (m : Message) (s : State) : Answer :=
  match pathSetOf s.draws m with
  | none => refuseWith .malformed s
  | some r =>
    { status := .done
      body := [out (num m 1)]
      state := postRebalance (num m 1)
        ((s.drawn (isWide m 13 || isWide m 14 || isWide m 15 || isWide m 16)).setPathSet (num m 1) r) }

/-- PATHSET_WRITE (R94, R95), kind 17. -/
def execPathsetWrite (s : State) : Result := effectEvent (ofKind 17) pathsetWriteEffect s

/-- R97: the members and their usable flags stand in eight fixed places each (log entry 9). -/
def pathsetReadEffect (m : Message) (s : State) : Answer :=
  if 64 ≤ num m 1 then refuseWith .malformed s
  else
    let r := s.pathSet (num m 1)
    { status := .done
      body :=
        [out r.mode.number, out r.members.length]
        ++ eightSlots [0#32] (fun x => [outMember x]) r.members
        ++ [outOption (r.fallback.map Fin.val), out r.cursor, out r.flowlet, out r.restore,
          out r.setchange, out r.lossless]
        ++ eightSlots [0#32] (fun x => [outFlag (s.memberUsable x)]) r.members
      state := s }

/-- PATHSET_READ (R97), kind 18. -/
def execPathsetRead (s : State) : Result := effectEvent (ofKind 18) pathsetReadEffect s

end Sys2Proof.Machine
end

