-- ==== Sys2Proof/Machine/Pause.lean ====
section
/-! DEFINITION. Pause messages received and sent, the pause, renewal, storm and recovery expiries, and
the pause requests (08_lossless_class_and_pause_control.md). -/

namespace Sys2Proof.Machine

/-- R140: a pause message for C2 with duration `d` acts on the C2 queue. -/
def Port.pauseReceived (r : Port) (d now : Nat) : Port :=
  match r.c2State with
  | .stalled => r
  | .ready => if d = 0 then r else { r with c2State := .paused, pauseEnd := some (now + d) }
  | .paused =>
    if d = 0 then { r with c2State := .ready, pauseEnd := none }
    else { r with pauseEnd := some (now + d) }

/-- R43, R140: the port block acts on a pause message whose check sequence is right while its link is UP. -/
def pauseMessageReceived (p : Nat) (checkGood : Bool) (bytes : List Byte) (s : State) : State :=
  if checkGood && isPauseMessage bytes && (s.port p).link == .up then
    let s1 := s.drawn (decide (bytes.length < 18))
    if pauseClass s.draws bytes = .c2 then
      s1.setPort p (s1.stormSync ((s1.port p).pauseReceived (pauseDuration s.draws bytes) s1.timebase))
    else s1
  else s

/-- PAUSE_MESSAGE_RECEIVED (R140). Bytes that are no pause message are no such event (log entry 6). -/
def execPauseMessageReceived (p : Nat) (checkGood : Bool) (bytes : List Byte) (s : State) : Result :=
  atPort p (pauseMessageReceived p checkGood bytes) s

/-- R138: the pending control message begins on the wire and its slot empties. -/
def controlMessageSend (p : Nat) (s : State) : State :=
  let r := s.port p
  if r.controlDue then
    match r.slot with
    | some x => s.setPort p { r with transmitter := .control x, slot := none }
    | none => s
  else s

/-- CONTROL_MESSAGE_SEND (R138). -/
def execControlMessageSend (p : Nat) (s : State) : Result := atPort p (controlMessageSend p) s

/-- R138: the last byte of a control message is sent. -/
def controlMessageEnd (p : Nat) (s : State) : State :=
  let r := s.port p
  match r.transmitter with
  | .control _ => s.setPort p { r with transmitter := .idle }
  | .frame _ => s
  | .idle => s

/-- CONTROL_MESSAGE_END (R138). -/
def execControlMessageEnd (p : Nat) (s : State) : Result := atPort p (controlMessageEnd p) s

/-- R136: a port's renewal expiry is due. -/
def Port.renewalDue (r : Port) (now : Nat) : Bool := r.ingress == .pausing && reached now r.renewal

/-- R136. -/
def renewalExpiry (p : Nat) (s : State) : State :=
  if (s.port p).renewalDue s.timebase then
    s.setPort p ((s.port p).placePause (s.pauseOf p) s.timebase)
  else s

/-- RENEWAL_EXPIRY (R136). -/
def execRenewalExpiry (p : Nat) (s : State) : Result := atPort p (renewalExpiry p) s

/-- R141: a queue's pause expiry is due. -/
def Port.pauseDue (r : Port) (now : Nat) : Bool := r.c2State == .paused && reached now r.pauseEnd

/-- R141, R143: the queue becomes READY and its storm timer stops. -/
def pauseExpiry (p : Nat) (s : State) : State :=
  if (s.port p).pauseDue s.timebase then
    s.setPort p (s.stormSync { s.port p with c2State := .ready, pauseEnd := none })
  else s

/-- PAUSE_EXPIRY (R141). -/
def execPauseExpiry (p : Nat) (s : State) : Result := atPort p (pauseExpiry p) s

/-- R144: a running storm timer's expiry is due. -/
def Port.stormDue (r : Port) (now : Nat) : Bool := reached now (r.storm.map StormTimer.expiry)

/-- R144: the C2 queue stalls. -/
def Port.stalled (r : Port) : Port := { r with c2State := .stalled, pauseEnd := none, storm := none }

/-- R144: the storm recovery starts, and an uplink enters storm hold. -/
def startRecovery (p : Nat) (s : State) : State :=
  s.setPort p { s.port p with
    recoveryEnd := some (s.timebase + 1000 * s.linkSettings.recoveryMs)
    stormHold := decide (32 ≤ p) || (s.port p).stormHold }

/-- R144. -/
def stormExpiry (p : Nat) (s : State) : State :=
  if (s.port p).stormDue s.timebase then
    startRecovery p (pend .pauseStorm p (flushQueue p .c2 (s.setPort p (s.port p).stalled)))
  else s

/-- STORM_EXPIRY (R144). -/
def execStormExpiry (p : Nat) (s : State) : Result := atPort p (stormExpiry p) s

/-- R145: the recovery ends. -/
def Port.recovered (r : Port) : Port :=
  { r with
    c2State := if r.c2State = .stalled then .ready else r.c2State
    recoveryEnd := none
    stormHold := false }

/-- R145. -/
def recoveryExpiry (p : Nat) (s : State) : State :=
  if reached s.timebase (s.port p).recoveryEnd then s.setPort p (s.port p).recovered else s

/-- RECOVERY_EXPIRY (R145). -/
def execRecoveryExpiry (p : Nat) (s : State) : Result := atPort p (recoveryExpiry p) s

/-! ### PAUSE_WRITE and PAUSE_READ -/

/-- R148 step 1. -/
def clampPauseOn (n : Nat) : Nat := if n = 0 then 1 else min 98304 n

/-- R148: the three values after the clamps, in order. -/
def pauseStored (on off quantum : Nat) : PauseSettings :=
  { pauseOn := clampPauseOn on
    pauseOff := if clampPauseOn on ≤ off then clampPauseOn on / 2 else off
    quantum := if quantum = 0 then 1 else quantum }

/-- R148: a clamp applied. -/
def pauseClamped (on off quantum : Nat) : Bool :=
  clampPauseOn on != on || decide (clampPauseOn on ≤ off) || quantum == 0

/-- R148: a port is tested against the settings just written. -/
def retestPort (s : State) (p : Nat) : State :=
  let r := s.port p
  match r.ingress with
  | .flowing => s.setPort p (r.pauseOnTest (s.pauseOf p) s.timebase)
  | .pausing => s.setPort p (r.pauseOffTest (s.pauseOf p))

/-- R148: the ports of a kind. -/
def portsOfKind (k : PortKind) : List Nat := (List.range 40).filter fun p => kindOfPort p == k

/-- R148: words 1 to 4 are the port kind, pause-on, pause-off and the quantum. -/
def pauseWriteEffect (m : Message) (s : State) : Answer :=
  match portKindOf (num m 1) with
  | none => refuseWith .malformed s
  | some k =>
    let quantum := field16 s.draws m 4
    let r := pauseStored (num m 2) (num m 3) quantum
    let s1 := { s.drawn (isWide m 4) with pauseSettings := s.pauseSettings.set k r }
    { status := doneStatus (pauseClamped (num m 2) (num m 3) quantum)
      body := [out r.pauseOn, out r.pauseOff, out r.quantum]
      state := (portsOfKind k).foldl retestPort s1 }

/-- PAUSE_WRITE (R148), kind 22. -/
def execPauseWrite (s : State) : Result := effectEvent (ofKind 22) pauseWriteEffect s

/-- R149: the storm timer's elapsed time and the time to its expiry. -/
def stormWords (now : Nat) : Option StormTimer → List Word
  | some x => [out (now - x.start), out (x.expiry - now)]
  | none => [0#32, 0#32]

/-- R149: word 1 is the port. -/
def pauseReadEffect (m : Message) (s : State) : Answer :=
  if 40 ≤ num m 1 then refuseWith .malformed s
  else
    let p := num m 1
    let r := s.port p
    let q := s.pauseOf p
    { status := .done
      body :=
        [out r.losslessCount, out r.ingress.number, out (remaining s.timebase r.renewal)]
        ++ outControl r.slot
        ++ [out q.pauseOn, out q.pauseOff, out q.quantum, out r.c2State.number,
          out (s.remainingPause p .c2)]
        ++ stormWords s.timebase r.storm
        ++ [out (remaining s.timebase r.recoveryEnd), outFlag r.stormHold]
      state := s }

/-- PAUSE_READ (R149), kind 23. -/
def execPauseRead (s : State) : Result := effectEvent (ofKind 23) pauseReadEffect s

end Sys2Proof.Machine
end

