-- ==== Sys2Proof/Machine/Profiles.lean ====
section
/-! DEFINITION. PROFILE_WRITE and PROFILE_READ (01_tenant_records_and_contracts.md, 1.8). -/

namespace Sys2Proof.Machine

/-- R21: the largest allowed multiplier not above the one given, with 0 raised to 1. -/
def clampMultiplier (n : Nat) : Nat :=
  if n < 4 then 1 else if n < 8 then 4 else if n < 16 then 8 else if n < 32 then 16 else 32

/-- R21: a surcharge above 7 is stored as 7. -/
def clampSurcharge (n : Nat) : Nat := min 7 n

/-- R21: a demotion target above its class is stored as the class itself. -/
def clampTarget (c target : Cls) : Cls :=
  if c = .c3 then .c3 else if c.number < target.number then c else target

/-- R21: the demotion map as stored. -/
def clampDemotion (d : PerClass Cls) : PerClass Cls :=
  ⟨clampTarget .c0 d.c0, clampTarget .c1 d.c1, clampTarget .c2 d.c2, clampTarget .c3 d.c3⟩

/-- R20: words 2 to 10: the four rates, the multiplier, its map, the surcharge, the peak hours and the
demotion map, as stored. The C2 flag of the map is not stored. -/
def profileStored (d : Nat) (m : Message) : Profile :=
  { rates := ⟨field16 d m 2, field16 d m 3, field16 d m 4, field16 d m 5⟩
    multiplier := clampMultiplier (num m 6)
    mapC0 := (word m 7).getLsbD 0
    mapC1 := (word m 7).getLsbD 1
    mapC3 := (word m 7).getLsbD 3
    surcharge := clampSurcharge (num m 8)
    peakHours := (word m 9).extractLsb' 0 24
    demotion := clampDemotion (demotionOf (word m 10)) }

/-- R21: a clamp applied. -/
def profileClamped (m : Message) : Bool :=
  clampMultiplier (num m 6) != num m 6 || clampSurcharge (num m 8) != num m 8
    || clampDemotion (demotionOf (word m 10)) != demotionOf (word m 10)

/-- R20, R23: a profile in a reply. R23 returns the C2 flag of the map set; that PROFILE_WRITE's reply
returns it set too is the model's choice (log entry 40). -/
def profileWords (r : Profile) : List Word :=
  [out r.rates.c0, out r.rates.c1, out r.rates.c2, out r.rates.c3, out r.multiplier,
    out (4 + r.mapC0.toNat + 2 * r.mapC1.toNat + 8 * r.mapC3.toNat), out r.surcharge,
    out r.peakHours.toNat, outDemotion r.demotion]

/-- R20. -/
def profileWriteEffect (m : Message) (s : State) : Answer :=
  if 16 ≤ num m 1 then refuseWith .malformed s
  else
    let r := profileStored s.draws m
    { status := doneStatus (profileClamped m)
      body := profileWords r
      state := (s.drawn (isWide m 2 || isWide m 3 || isWide m 4 || isWide m 5)).setProfile (num m 1) r }

/-- PROFILE_WRITE (R20), kind 9. -/
def execProfileWrite (s : State) : Result := effectEvent (ofKind 9) profileWriteEffect s

/-- R23. -/
def profileReadEffect (m : Message) (s : State) : Answer :=
  if 16 ≤ num m 1 then refuseWith .malformed s
  else { status := .done, body := profileWords (s.profile (num m 1)), state := s }

/-- PROFILE_READ (R23), kind 10. -/
def execProfileRead (s : State) : Result := effectEvent (ofKind 10) profileReadEffect s

end Sys2Proof.Machine
end

