-- ==== Sys2Proof/Machine/Sweeper.lean ====
section
/-! DEFINITION. The Table Sweeper's passes and SWEEP_READ (10_table_sweeper.md). -/

namespace Sys2Proof.Machine

/-- R168: at least one job is in a list. -/
def Jobs.any (j : Jobs) : Bool := j.aging || !j.ports.isEmpty || !j.tenants.isEmpty || !j.sets.isEmpty

/-- R168: a pass start is due. -/
def State.passDue (s : State) : Bool := s.pass.isNone && s.jobs.any

/-- PASS_START (R168): the carried jobs become the pending jobs. -/
def execPassStart (s : State) : Result :=
  .next (if s.passDue then
      { s with jobs := noJobs, pass := some { carried := s.jobs, phase := .stations, position := 0 } }
    else s)

/-- R75: a LEARNED entry is stale when its idle time is at or above the aging interval. -/
def State.stale (s : State) (e : Entry) : Bool := decide (s.agingInterval ≤ s.second - e.lastSeen)

/-- R170: a carried job removes an entry. -/
def State.entrySwept (s : State) (j : Jobs) (e : Entry) : Bool :=
  setHas j.tenants e.tenant ||
  (match e.kind with
  | .static => false
  | .learned =>
    (j.aging && s.stale e) ||
    (match e.target with
    | .downlink p => setHas j.ports p
    | .path _ => false))

/-- R74, R170: the entry in a slot is removed, and its tenant's station count falls by 1. -/
def removeEntry (slot : Nat) (e : Entry) (s : State) : State :=
  (s.setStation slot none).setTenant e.tenant
    { s.tenant e.tenant with stationCount := (s.tenant e.tenant).stationCount - 1 }

/-- R170: the work of a visit at a station slot. -/
def visitStation (j : Jobs) (slot : Nat) (s : State) : State :=
  match s.station slot with
  | some e => if s.entrySwept j e then removeEntry slot e s else s
  | none => s

/-- R169: after station slot 16,383 the phase becomes PINS and the position 0. -/
def Pass.afterStation (q : Pass) : Pass :=
  if q.position + 1 < 16384 then { q with position := q.position + 1 }
  else { q with phase := .pins, position := 0 }

/-- STATION_VISIT (R169, R170): the running pass visits the station slot at its position. -/
def execStationVisit (s : State) : Result :=
  .next (match s.pass with
    | some q =>
      match q.phase with
      | .stations => { visitStation q.carried q.position s with pass := some q.afterStation }
      | .pins => s
    | none => s)

/-- R114, R171: a carried job invalidates a pin. -/
def State.pinSwept (s : State) (j : Jobs) (r : Pin) : Bool :=
  r.valid &&
  ((j.aging && decide (1000000 * s.pinExpiry ≤ s.timebase - r.lastUse)) ||
    setHas j.sets r.origin || setHas j.sets r.current.set)

/-- R171: the work of a visit at a pin slot. -/
def visitPin (j : Jobs) (slot : Nat) (s : State) : State :=
  if s.pinSwept j (s.pin slot) then s.setPin slot { s.pin slot with valid := false } else s

/-- PIN_VISIT (R169, R171): the running pass visits the pin slot at its position. -/
def execPinVisit (s : State) : Result :=
  .next (match s.pass with
    | some q =>
      match q.phase with
      | .stations => s
      | .pins =>
        if q.position < 8192 then
          { visitPin q.carried q.position s with pass := some { q with position := q.position + 1 } }
        else s
    | none => s)

/-- R172: the visit of pin slot 8,191 has been taken. -/
def Pass.finished (q : Pass) : Bool := q.phase == .pins && decide (8192 ≤ q.position)

/-- R172: the pass end. -/
def endPass (j : Jobs) (s : State) : State :=
  let s1 := pendAll .rebalanceDone j.sets (pendAll .flushDone j.ports { s with pass := none })
  j.tenants.foldl (fun s t => becomeVacantIfDone t s) s1

/-- PASS_END (R172). -/
def execPassEnd (s : State) : Result :=
  .next (match s.pass with
    | some q => if q.finished then endPass q.carried s else s
    | none => s)

/-- R174: the position of a running pass; free once no slot is left to visit (log entry 24). -/
def passPosition (d : Nat) (q : Pass) : Nat :=
  if q.finished then (Config.finishedPosition d).toNat else q.position

/-- R174: what the reply says of the pass that runs; all 0 when none runs. -/
def passWords (d t : Nat) : Option Pass → List Word
  | none => [outFlag false, 0#32, 0#32, 0#32, 0#32, 0#32, 0#32, 0#32, 0#32]
  | some q =>
    [outFlag true, outFlag q.carried.aging, out (setBits 32 q.carried.ports)]
      ++ out2 (setBits 64 q.carried.sets)
      ++ [out q.carried.tenants.length, outFlag (setHas q.carried.tenants t), out q.phase.number,
        out (passPosition d q)]

/-- R174: word 1 is the tenant. -/
def sweepReadEffect (m : Message) (s : State) : Answer :=
  if 1024 ≤ num m 1 then refuseWith .malformed s
  else
    { status := .done
      body :=
        [outFlag s.jobs.aging, out (setBits 32 s.jobs.ports)] ++ out2 (setBits 64 s.jobs.sets)
        ++ [out s.jobs.tenants.length, outFlag (setHas s.jobs.tenants (num m 1))]
        ++ passWords s.draws (num m 1) s.pass
        ++ [out s.agingInterval, out s.pinExpiry]
      state := s }

/-- SWEEP_READ (R174), kind 27. -/
def execSweepRead (s : State) : Result := effectEvent (ofKind 27) sweepReadEffect s

end Sys2Proof.Machine
end

