-- ==== Sys2Proof/Machine/Stations.lean ====
section
/-! DEFINITION. The station requests (04_station_table.md, 4.4 and 4.5). Words 1 to 3 of the three that
name a key are the tenant and the address. -/

namespace Sys2Proof.Machine

/-- R72: the STATIC entry that an insert writes. -/
def insertedEntry (t : Nat) (a : Addr) (target : Target) (second : Nat) : Entry :=
  { tenant := t, address := a, kind := .static, target := target, lastSeen := second }

/-- R71 checks 4 and 5, and R72: in place, or in the lowest free way. -/
def insertEntry (t : Nat) (a : Addr) (target : Target) (s : State) : Answer :=
  let e' := insertedEntry t a target s.second
  match s.findEntry t a with
  | some (i, e) =>
    { status := .done
      body := [out i, outFlag true, outKind e.kind, outTarget e.target]
      state := s.setStation i (some e') }
  | none =>
    match s.freeSlot t a with
    | none => refuseWith .bucketFull s
    | some i =>
      if (s.tenant t).stationLimit ≤ (s.tenant t).stationCount then refuseWith .limit s
      else
        { status := .done
          body := [out i, outFlag false, 0#32, 0#32]
          state := (s.setStation i (some e')).setTenant t
            { s.tenant t with stationCount := (s.tenant t).stationCount + 1 } }

/-- R71 checks 1 to 3: words 1 to 4 are the tenant, the address and the target. -/
def stationInsertEffect (m : Message) (s : State) : Answer :=
  let a := addressField s.draws m 2
  let s0 := s.drawn (isWideAddress m 2)
  match targetOf (word m 4) with
  | none => refuseWith .malformed s0
  | some target =>
    if 1024 ≤ num m 1 ∨ isGroup a = true then refuseWith .malformed s0
    else if (s0.tenant (num m 1)).state = .vacant then refuseWith .noTenant s0
    else if (s0.tenant (num m 1)).state = .draining then refuseWith .badState s0
    else insertEntry (num m 1) a target s0

/-- STATION_INSERT (R71, R72), kind 13. -/
def execStationInsert (s : State) : Result := effectEvent (ofKind 13) stationInsertEffect s

/-- R73. -/
def stationFindEffect (m : Message) (s : State) : Answer :=
  let a := addressField s.draws m 2
  let s0 := s.drawn (isWideAddress m 2)
  if 1024 ≤ num m 1 then refuseWith .malformed s0
  else
    match s0.findEntry (num m 1) a with
    | some (i, e) =>
      { status := .done
        body := [out i, outKind e.kind, outTarget e.target, out e.lastSeen,
          outFlag (s0.reachable e.target)]
        state := s0 }
    | none => refuseWith .notFound s0

/-- STATION_FIND (R73), kind 14. -/
def execStationFind (s : State) : Result := effectEvent (ofKind 14) stationFindEffect s

/-- R74. -/
def stationRemoveEffect (m : Message) (s : State) : Answer :=
  let a := addressField s.draws m 2
  let s0 := s.drawn (isWideAddress m 2)
  if 1024 ≤ num m 1 then refuseWith .malformed s0
  else
    match s0.findEntry (num m 1) a with
    | some (i, e) =>
      { status := .done
        body := [out i, outKind e.kind, outTarget e.target, out e.lastSeen]
        state := removeEntry i e s0 }
    | none => refuseWith .notFound s0

/-- STATION_REMOVE (R74), kind 15. -/
def execStationRemove (s : State) : Result := effectEvent (ofKind 15) stationRemoveEffect s

/-- R77: the aging interval as loaded; one below 10 s loads the power-on value. -/
def clampAging (n : Nat) : Nat := if n < 10 then 300 else min 3600 n

/-- R77: the pin expiry as loaded. -/
def clampPinExpiry (n : Nat) : Nat := if n = 0 then 1 else min 60 n

/-- R77: words 1 and 2 are the aging interval and the pin expiry. -/
def stationAgingEffect (m : Message) (s : State) : Answer :=
  { status := doneStatus (clampAging (num m 1) != num m 1 || clampPinExpiry (num m 2) != num m 2)
    body := [out (clampAging (num m 1)), out (clampPinExpiry (num m 2))]
    state := { s with agingInterval := clampAging (num m 1), pinExpiry := clampPinExpiry (num m 2) } }

/-- STATION_AGING (R77), kind 16. -/
def execStationAging (s : State) : Result := effectEvent (ofKind 16) stationAgingEffect s

end Sys2Proof.Machine
end

