-- ==== Sys2Proof/Machine/Steering.lean ====
section
/-! DEFINITION. RESOLUTION_EVENT and PIN_READ: the walks of 05_path_sets_and_resolution.md and the pin
decision of 06_flow_pins_and_steering.md. -/

namespace Sys2Proof.Machine

/-! ### The walks (R84 to R92) -/

/-- R86, R87: the indices looked at from `start` upward, passing from the last index to index 0. -/
def searchOrder (count start : Nat) : List Nat :=
  (List.range count).map fun j => (start + j) % count

/-- R86, R87: the first usable member from `start`, with its index. -/
def pickFrom (ok : Member → Bool) (members : List Member) (start : Nat) : Option (Nat × Member) :=
  (searchOrder members.length start).findSome? fun i =>
    match members[i]? with
    | some m => if ok m then some (i, m) else none
    | none => none

/-- R86, R87: where the search in a set starts: at the pick value, or at the cursor. -/
def PathSet.startIndex (r : PathSet) (hashHigh : Nat) : Nat :=
  match r.mode with
  | .hashed => hashHigh % r.members.length
  | .rotating => r.cursor

/-- R87: the set after member `i` has been chosen in it: a ROTATING cursor moves to one past `i`. -/
def PathSet.afterChoice (r : PathSet) (i : Nat) : PathSet :=
  match r.mode with
  | .hashed => r
  | .rotating => { r with cursor := (i + 1) % r.members.length }

/-- R84: the three outcomes of a walk. -/
inductive WalkEnd where
  | reached (place : Place) (u : Fin 8)
  | noPath
  | chainFault
  deriving DecidableEq, Repr

/-- A walk's outcome, the sets as its choices left them (R87), and, for each set, the index chosen at
its first entry (R91). -/
structure Walk where
  outcome : WalkEnd
  sets : Table PathSet
  picks : Table (Option Nat)
  deriving DecidableEq, Repr

/-- R91: what the walk chose at its first entry into a set stays recorded. -/
def recordPick (picks : Table (Option Nat)) (n i : Nat) : Table (Option Nat) :=
  match tableGet none picks n with
  | some _ => picks
  | none => tablePut picks n (some i)

/-- R84 to R89: a fresh resolution that may still make `visits` visits and would next enter set `n`. -/
def freshWalk (ok : Member → Bool) (hashHigh : Nat) :
    Nat → Fin 64 → Table PathSet → Table (Option Nat) → Walk
  | 0, _, sets, picks => { outcome := .chainFault, sets := sets, picks := picks }
  | visits + 1, n, sets, picks =>
    let r := tableGet emptyPathSet sets n
    match pickFrom ok r.members (r.startIndex hashHigh) with
    | none =>
      match r.fallback with
      | none => { outcome := .noPath, sets := sets, picks := picks }
      | some n' => freshWalk ok hashHigh visits n' sets picks
    | some (i, m) =>
      let sets' := tableSet emptyPathSet sets n (r.afterChoice i)
      let picks' := recordPick picks n i
      match m with
      | .uplink u => { outcome := .reached ⟨n, i⟩ u, sets := sets', picks := picks' }
      | .redirect n' => freshWalk ok hashHigh visits n' sets' picks'

/-- R91: the index a home resolution takes in a set. -/
def homeIndex (hashHigh : Nat) (picks : Table (Option Nat)) (n : Nat) (r : PathSet) : Nat :=
  match r.mode with
  | .hashed => hashHigh % r.members.length
  | .rotating =>
    match tableGet none picks n with
    | some i => i
    | none => r.cursor

/-- R91: a home resolution over the sets as the fresh resolution left them. It changes nothing. -/
def homeWalk (hashHigh : Nat) (sets : Table PathSet) (picks : Table (Option Nat)) :
    Nat → Fin 64 → Option Place
  | 0, _ => none
  | visits + 1, n =>
    let r := tableGet emptyPathSet sets n
    let i := homeIndex hashHigh picks n r
    match r.members[i]? with
    | none => none
    | some (.uplink _) => some ⟨n, i⟩
    | some (.redirect n') => homeWalk hashHigh sets picks visits n'

/-- R84: a fresh resolution of a copy from origin set `n`, with at most five visits (R89). -/
def State.freshResolution (s : State) (c : Copy) (n : Fin 64) : Walk :=
  freshWalk s.memberUsable c.hashHigh 5 n s.pathSets []

/-- R91, R92: the home of a new pin: the home result, or the fresh result when there is none. -/
def homeOf (c : Copy) (n : Fin 64) (w : Walk) (fresh : Place) : Place :=
  (homeWalk c.hashHigh w.sets w.picks 5 n).getD fresh

/-! ### The pin decision (R101, R105 to R113) -/

/-- R100: the idle time of a pin. -/
def State.idle (s : State) (r : Pin) : Nat := s.timebase - r.lastUse

/-- R105: the re-steer threshold of a class. -/
def State.resteer (s : State) (c : Cls) : Nat := (s.policy .uplink c).resteer

/-- R105: the occupancy of an uplink's queue. -/
def State.uplinkOccupancy (s : State) (u : Fin 8) (c : Cls) : Nat := s.occupancy (32 + u) c

/-- R113: the gap a congestion move of class `c` within set record `r` requires. -/
def congestionGap (r : PathSet) (c : Cls) : Nat :=
  if c = .c2 then max r.flowlet r.lossless else r.flowlet

/-- R113: the gap a restore of class `c` into set record `r` requires, within the set or across sets. -/
def restoreGap (r : PathSet) (c : Cls) (across : Bool) : Nat :=
  max (max r.flowlet r.restore)
    (max (if across then r.setchange else 0) (if c = .c2 then r.lossless else 0))

/-- R109: the restore move is made. Its result is the home's uplink. -/
def State.restoreTo (s : State) (r : Pin) (c : Cls) : Option (Fin 8) :=
  match s.uplinkOf r.home with
  | none => none
  | some u =>
    if r.current ≠ r.home ∧ s.placeUsable r.home = true ∧ s.uplinkOccupancy u c < s.resteer c
        ∧ restoreGap (s.pathSet r.home.set) c (decide (r.home.set ≠ r.current.set)) ≤ s.idle r then
      some u
    else none

/-- R110: the candidates of a congestion move off uplink `u` in set `n`: index and uplink. -/
def State.candidates (s : State) (n : Fin 64) (u : Fin 8) (c : Cls) : List (Nat × Fin 8) :=
  ((s.pathSet n).members.zipIdx).filterMap fun (m, i) =>
    match m with
    | .uplink v =>
      if s.memberUsable (.uplink v) = true ∧ v ≠ u ∧ 2 * s.uplinkOccupancy v c ≤ s.resteer c then
        some (i, v)
      else none
    | .redirect _ => none

/-- R110: the candidate of least occupancy, the lowest index among equals. -/
def leastOccupied (occupancy : Fin 8 → Nat) : List (Nat × Fin 8) → Option (Nat × Fin 8)
  | [] => none
  | x :: rest =>
    match leastOccupied occupancy rest with
    | none => some x
    | some y => if occupancy x.2 ≤ occupancy y.2 then some x else some y

/-- R110: the congestion move is made. Its result is the chosen index of the current set and its uplink. -/
def State.congestionTo (s : State) (r : Pin) (u : Fin 8) (c : Cls) : Option (Nat × Fin 8) :=
  if s.resteer c ≤ s.uplinkOccupancy u c ∧ congestionGap (s.pathSet r.current.set) c ≤ s.idle r then
    leastOccupied (fun v => s.uplinkOccupancy v c) (s.candidates r.current.set u c)
  else none

/-- R101: slot P holds the pin of this copy's flow. -/
def pinMatches (r : Pin) (c : Copy) (n : Fin 64) : Bool :=
  r.valid && r.check == c.pinCheck && r.origin == n

/-- R101: slot P is free, or held idle, so that a new pin is made in it. -/
def State.pinTakeable (s : State) (r : Pin) : Bool :=
  !r.valid || (s.pathSet r.current.set).flowlet ≤ s.idle r

/-- R84, R88, R89: what follows a fresh resolution of the next copy of frame `k`: the hand-over, or the
drop, with CHAIN_FAULT pended for the origin set when the walk was stopped. -/
def afterWalk (k : Nat) (n : Fin 64) (w : Walk) (s : State) : State :=
  match w.outcome with
  | .reached _ u => s.handOver k u
  | .noPath => s.dropNext k
  | .chainFault => pend .chainFault n (s.dropNext k)

/-- R102: a new pin, or none when the walk reached no uplink. -/
def resolveNew (k : Nat) (c : Copy) (n : Fin 64) (s : State) : State :=
  let w := s.freshResolution c n
  let s1 := { s with pathSets := w.sets }
  afterWalk k n w
    (match w.outcome with
    | .reached pl _ =>
      s1.setPin c.pinSlot
        { valid := true, check := c.pinCheck, origin := n, current := pl, home := homeOf c n w pl,
          lastUse := s.timebase }
    | .noPath => s1
    | .chainFault => s1)

/-- R103: the copy is forwarded unpinned. -/
def resolveUnpinned (k : Nat) (c : Copy) (n : Fin 64) (s : State) : State :=
  let w := s.freshResolution c n
  afterWalk k n w { s with pathSets := w.sets }

/-- R107, R108: the fault move. -/
def resolveFault (k : Nat) (c : Copy) (n : Fin 64) (r : Pin) (s : State) : State :=
  let w := s.freshResolution c n
  let s1 := { s with pathSets := w.sets }
  afterWalk k n w
    (match w.outcome with
    | .reached pl _ => s1.setPin c.pinSlot { r with current := pl, lastUse := s.timebase }
    | .noPath => s1.setPin c.pinSlot { r with lastUse := s.timebase }
    | .chainFault => s1.setPin c.pinSlot { r with lastUse := s.timebase })

/-- R106: a matched pin: the fault move, the restore move, the congestion move, or staying. -/
def resolveMatched (k : Nat) (c : Copy) (n : Fin 64) (r : Pin) (s : State) : State :=
  match s.uplinkOf r.current with
  | none => resolveFault k c n r s
  | some u =>
    if s.placeUsable r.current = false then resolveFault k c n r s
    else
      match s.restoreTo r c.cls with
      | some v => (s.setPin c.pinSlot { r with current := r.home, lastUse := s.timebase }).handOver k v
      | none =>
        match s.congestionTo r u c.cls with
        | some (i, v) =>
          let pl : Place := ⟨r.current.set, i⟩
          (s.setPin c.pinSlot { r with current := pl, home := pl, lastUse := s.timebase }).handOver k v
        | none => (s.setPin c.pinSlot { r with lastUse := s.timebase }).handOver k u

/-- R100, R101: the resolution event of a copy bound for RESOLVE(n). -/
def resolveCopy (k : Nat) (c : Copy) (n : Fin 64) (s : State) : State :=
  let r := s.pin c.pinSlot
  if pinMatches r c n then resolveMatched k c n r s
  else if s.pinTakeable r then resolveNew k c n s
  else resolveUnpinned k c n s

/-- RESOLUTION_EVENT (R100): the next copy of frame `k` in flight, when it is bound for resolution. -/
def execResolutionEvent (k : Nat) (s : State) : Result :=
  .next (match s.nextCopy k with
    | some c =>
      match c.dest with
      | .resolve n => resolveCopy k c n s
      | .downlink _ => s
      | .uplink _ => s
    | none => s)

/-! ### PIN_READ -/

/-- R117: the uplink a place names, and its usable flag. -/
def State.placeWords (s : State) (pl : Place) : List Word :=
  [outOption ((s.uplinkOf pl).map Fin.val), outFlag (s.placeUsable pl)]

/-- R117. -/
def pinReadEffect (m : Message) (s : State) : Answer :=
  if 8192 ≤ num m 1 then refuseWith .malformed s
  else
    let r := s.pin (num m 1)
    { status := .done
      body := [outFlag r.valid, out r.check.toNat, out r.origin, outPlace r.current, outPlace r.home]
        ++ out2 r.lastUse ++ out2 (s.idle r) ++ s.placeWords r.current ++ s.placeWords r.home
      state := s }

/-- PIN_READ (R117), kind 19. -/
def execPinRead (s : State) : Result := effectEvent (ofKind 19) pinReadEffect s

end Sys2Proof.Machine
end

