-- ==== Sys2Proof/Machine/Tenants.lean ====
section
/-! DEFINITION. The tenant requests (01_tenant_records_and_contracts.md, 1.4 and 1.6). Word 1 of each is
the tenant number (log entry 8). -/

namespace Sys2Proof.Machine

/-- R7, checks 1 and 2: the request is refused with MALFORMED when the tenant number or a field of the
body is out of range, and with NO_TENANT when the record is VACANT. -/
def needTenant (m : Message) (inRange : Bool) (s : State) (effect : Nat → Tenant → Answer) : Answer :=
  if 1024 ≤ num m 1 ∨ inRange = false then refuseWith .malformed s
  else if (s.tenant (num m 1)).state = .vacant then refuseWith .noTenant s
  else effect (num m 1) (s.tenant (num m 1))

/-- R7, check 3, and the reply of an accepted request: its record, its status and its body. -/
def acceptTenant (t : Nat) (r : Tenant) (st : Status) (body : List Word) (s : State) : Answer :=
  { status := st, body := body, state := s.setTenant t r }

/-- A tenant state in a reply (R190, R191). -/
def outState (x : TenantState) : Word := out x.number

/-- R8: words 2 to 9: profile, port set, default path, station limit, allowance, ceiling. -/
def tenantOpenEffect (m : Message) (s : State) : Answer :=
  match optionalSet m 4 with
  | none => refuseWith .malformed s
  | some path =>
    if 1024 ≤ num m 1 ∨ 16 ≤ num m 2 ∨ 16384 < num m 5 ∨ Config.max40 < num2 m 6
        ∨ Config.max40 < num2 m 8 then refuseWith .malformed s
    else if (s.tenant (num m 1)).state ≠ .vacant then refuseWith .notVacant s
    else
      let r := { s.tenant (num m 1) with
        state := derivedState (num2 m 6) 0 (num2 m 8)
        profile := num m 2
        portSet := word m 3
        defaultPath := path
        stationLimit := num m 5
        allowance := num2 m 6
        overage := 0
        ceiling := num2 m 8
        saturated := false
        meters := ⟨zeroMeters, zeroMeters, zeroMeters, zeroMeters⟩ }
      acceptTenant (num m 1) r .done [outState r.state] s

/-- TENANT_OPEN (R8), kind 1. -/
def execTenantOpen (s : State) : Result := effectEvent (ofKind 1) tenantOpenEffect s

/-- R9: the five fields take their values. -/
def Tenant.amended (r : Tenant) (m : Message) (path : Option (Fin 64)) : Tenant :=
  { r with
    profile := num m 2
    portSet := word m 3
    defaultPath := path
    stationLimit := num m 5
    ceiling := num2 m 6 }

/-- R9: words 2 to 7: profile, port set, default path, station limit, ceiling. -/
def tenantAmendEffect (m : Message) (s : State) : Answer :=
  match optionalSet m 4 with
  | none => refuseWith .malformed s
  | some path =>
    needTenant m (decide (num m 2 < 16) && decide (num m 5 ≤ 16384) && decide (num2 m 6 ≤ Config.max40)) s
      fun t r =>
        if r.state = .draining then refuseWith .badState s
        else if num m 5 < r.stationCount then refuseWith .limit s
        else acceptTenant t (r.amended m path).rederive .done [outState (r.amended m path).rederive.state] s

/-- TENANT_AMEND (R9), kind 2. -/
def execTenantAmend (s : State) : Result := effectEvent (ofKind 2) tenantAmendEffect s

/-- R10: the amount is added to the allowance, held at its maximum. -/
def Tenant.toppedUp (r : Tenant) (amount : Nat) : Tenant :=
  { r with allowance := min Config.max40 (r.allowance + amount) }.rederive

/-- R10: words 2 and 3 are the amount. -/
def tenantTopupEffect (m : Message) (s : State) : Answer :=
  needTenant m (decide (num2 m 2 ≤ Config.max40)) s fun t r =>
    if r.state = .draining then refuseWith .badState s
    else
      acceptTenant t (r.toppedUp (num2 m 2)) (doneStatus (decide (Config.max40 < r.allowance + num2 m 2)))
        (out2 (r.toppedUp (num2 m 2)).allowance ++ [outState (r.toppedUp (num2 m 2)).state]) s

/-- TENANT_TOPUP (R10), kind 3. -/
def execTenantTopup (s : State) : Result := effectEvent (ofKind 3) tenantTopupEffect s

/-- R11: one class's meters after a collection; the residue is kept. -/
def Meters.collected (m : Meters) : Meters := { zeroMeters with residue := m.residue }

/-- R11: the record after a collection. -/
def Tenant.collected (r : Tenant) : Tenant :=
  { r with
    overage := 0
    saturated := false
    meters := ⟨r.meters.c0.collected, r.meters.c1.collected, r.meters.c2.collected,
      r.meters.c3.collected⟩ }.rederive

/-- R11. -/
def tenantCollectEffect (m : Message) (s : State) : Answer :=
  needTenant m true s fun t r =>
    acceptTenant t r.collected .done (tenantReport r r.collected.state) s

/-- TENANT_COLLECT (R11), kind 4. -/
def execTenantCollect (s : State) : Result := effectEvent (ofKind 4) tenantCollectEffect s

/-- R12. -/
def tenantReadEffect (m : Message) (s : State) : Answer :=
  needTenant m true s fun _ r => { status := .done, body := tenantReport r r.state, state := s }

/-- TENANT_READ (R12), kind 5. -/
def execTenantRead (s : State) : Result := effectEvent (ofKind 5) tenantReadEffect s

/-- R13. -/
def tenantSuspendEffect (m : Message) (s : State) : Answer :=
  needTenant m true s fun t r =>
    if r.state.openForTraffic then
      acceptTenant t { r with state := .suspended } .done [outState .suspended] s
    else refuseWith .badState s

/-- TENANT_SUSPEND (R13), kind 6. -/
def execTenantSuspend (s : State) : Result := effectEvent (ofKind 6) tenantSuspendEffect s

/-- R14. -/
def tenantResumeEffect (m : Message) (s : State) : Answer :=
  needTenant m true s fun t r =>
    if r.state = .suspended then
      acceptTenant t { r with state := r.derived } .done [outState r.derived] s
    else refuseWith .badState s

/-- TENANT_RESUME (R14), kind 7. -/
def execTenantResume (s : State) : Result := effectEvent (ofKind 7) tenantResumeEffect s

/-- R16. -/
def tenantRetireEffect (m : Message) (s : State) : Answer :=
  needTenant m true s fun t r =>
    if r.state = .draining then refuseWith .badState s
    else
      acceptTenant t { r with state := .draining } .done (tenantReport r .draining) (postPurge t s)

/-- TENANT_RETIRE (R16), kind 8. -/
def execTenantRetire (s : State) : Result := effectEvent (ofKind 8) tenantRetireEffect s

end Sys2Proof.Machine
end

