-- ==== Sys2Proof/Machine/Window.lean ====
section
/-! DEFINITION. The host window's writes, the taking of a request, and the unknown kinds
(11_request_port_notices_and_formats.md). -/

namespace Sys2Proof.Machine

/-- POSTING_AREA_WRITE (R175, R177): words 0 to 30. -/
def execPostingAreaWrite (offset : Nat) (w : Word) (s : State) : Result :=
  if offset < 31 then .next { s with postingArea := s.postingArea.set offset w } else .refused .illFormed

/-- R177: the message is appended, or discarded as an overrun. -/
def postMessage (m : Message) (s : State) : State :=
  if s.requests.length < 32 then { s with requests := s.requests ++ [m] }
  else pend .postingOverrun 0 { s with overrun := true }

/-- POST (R177): a write of word 31 posts the 32 words that the area then holds, and leaves the area. -/
def execPost (w : Word) (s : State) : Result :=
  let area := s.postingArea.set 31 w
  .next (postMessage area { s with postingArea := area })

/-- R177, R180: a write of the control word: bit 0 releases the oldest reply, bit 1 clears the flag. -/
def controlWrite (w : Word) (s : State) : State :=
  { s with
    replies := if w.getLsbD 0 then s.replies.tail else s.replies
    overrun := if w.getLsbD 1 then false else s.overrun }

/-- RELEASE (R180): a write of the control word with bit 0 set. -/
def execRelease (w : Word) (s : State) : Result :=
  if w.getLsbD 0 then .next (controlWrite w s) else .refused .illFormed

/-- OVERRUN_FLAG_CLEAR (R177): a write of the control word with bit 1 set. -/
def execOverrunFlagClear (w : Word) (s : State) : Result :=
  if w.getLsbD 1 then .next (controlWrite w s) else .refused .illFormed

/-- R178: a taking is due. -/
def State.takeDue (s : State) : Bool :=
  !s.requests.isEmpty && s.execution.isNone && decide (s.replies.length < 32)

/-- REQUEST_TAKE (R178). -/
def execRequestTake (s : State) : Result :=
  .next (if s.takeDue then
      { s with
        requests := s.requests.tail
        execution := s.requests.head?.map fun m => { message := m, keepReply := true } }
    else s)

/-- R182: a kind number that is not one of 1 to 29. -/
def unknownKindOf (m : Message) : Bool := kindOf m == 0 || decide (29 < kindOf m)

/-- UNKNOWN_KIND (R182). -/
def execUnknownKind (s : State) : Result :=
  effectEvent unknownKindOf (fun _ s => refuseWith .malformed s) s

end Sys2Proof.Machine
end

