-- ==== Sys2Proof/Machine/Dispatch.lean ====
section
/-! DEFINITION. The meaning of each command: one arm for each constructor, one call for each arm. -/

namespace Sys2Proof.Machine

def exec (i : Instr) (s : State) : Host.Outcome State Fault Refusal :=
  match i with
  | .powerOn => Sys2Proof.Machine.execPowerOn s
  | .controlReset => Sys2Proof.Machine.execControlReset s
  | .frameTaken port checkGood bytes => Sys2Proof.Machine.execFrameTaken port checkGood bytes s
  | .pauseMessageReceived port checkGood bytes => Sys2Proof.Machine.execPauseMessageReceived port checkGood bytes s
  | .resolutionEvent frame => Sys2Proof.Machine.execResolutionEvent frame s
  | .admission frame => Sys2Proof.Machine.execAdmission frame s
  | .transmissionStart port => Sys2Proof.Machine.execTransmissionStart port s
  | .transmissionCompletion port => Sys2Proof.Machine.execTransmissionCompletion port s
  | .controlMessageSend port => Sys2Proof.Machine.execControlMessageSend port s
  | .controlMessageEnd port => Sys2Proof.Machine.execControlMessageEnd port s
  | .renewalExpiry port => Sys2Proof.Machine.execRenewalExpiry port s
  | .pauseExpiry port => Sys2Proof.Machine.execPauseExpiry port s
  | .stormExpiry port => Sys2Proof.Machine.execStormExpiry port s
  | .recoveryExpiry port => Sys2Proof.Machine.execRecoveryExpiry port s
  | .laneLoss port => Sys2Proof.Machine.execLaneLoss port s
  | .laneLock port => Sys2Proof.Machine.execLaneLock port s
  | .debounceExpiry port => Sys2Proof.Machine.execDebounceExpiry port s
  | .holdDownExpiry port => Sys2Proof.Machine.execHoldDownExpiry port s
  | .agingPosting => Sys2Proof.Machine.execAgingPosting s
  | .clockAdvance => Sys2Proof.Machine.execClockAdvance s
  | .passStart => Sys2Proof.Machine.execPassStart s
  | .stationVisit => Sys2Proof.Machine.execStationVisit s
  | .pinVisit => Sys2Proof.Machine.execPinVisit s
  | .passEnd => Sys2Proof.Machine.execPassEnd s
  | .postingAreaWrite offset word => Sys2Proof.Machine.execPostingAreaWrite offset word s
  | .post word => Sys2Proof.Machine.execPost word s
  | .release control => Sys2Proof.Machine.execRelease control s
  | .overrunFlagClear control => Sys2Proof.Machine.execOverrunFlagClear control s
  | .requestTake => Sys2Proof.Machine.execRequestTake s
  | .unknownKind => Sys2Proof.Machine.execUnknownKind s
  | .tenantOpen => Sys2Proof.Machine.execTenantOpen s
  | .tenantAmend => Sys2Proof.Machine.execTenantAmend s
  | .tenantTopup => Sys2Proof.Machine.execTenantTopup s
  | .tenantCollect => Sys2Proof.Machine.execTenantCollect s
  | .tenantRead => Sys2Proof.Machine.execTenantRead s
  | .tenantSuspend => Sys2Proof.Machine.execTenantSuspend s
  | .tenantResume => Sys2Proof.Machine.execTenantResume s
  | .tenantRetire => Sys2Proof.Machine.execTenantRetire s
  | .profileWrite => Sys2Proof.Machine.execProfileWrite s
  | .profileRead => Sys2Proof.Machine.execProfileRead s
  | .clockSet => Sys2Proof.Machine.execClockSet s
  | .clockRead => Sys2Proof.Machine.execClockRead s
  | .stationInsert => Sys2Proof.Machine.execStationInsert s
  | .stationFind => Sys2Proof.Machine.execStationFind s
  | .stationRemove => Sys2Proof.Machine.execStationRemove s
  | .stationAging => Sys2Proof.Machine.execStationAging s
  | .pathsetWrite => Sys2Proof.Machine.execPathsetWrite s
  | .pathsetRead => Sys2Proof.Machine.execPathsetRead s
  | .pinRead => Sys2Proof.Machine.execPinRead s
  | .policyWrite => Sys2Proof.Machine.execPolicyWrite s
  | .queueRead => Sys2Proof.Machine.execQueueRead s
  | .pauseWrite => Sys2Proof.Machine.execPauseWrite s
  | .pauseRead => Sys2Proof.Machine.execPauseRead s
  | .linkAdminDown => Sys2Proof.Machine.execLinkAdminDown s
  | .linkAdminUp => Sys2Proof.Machine.execLinkAdminUp s
  | .linkTiming => Sys2Proof.Machine.execLinkTiming s
  | .linkRead => Sys2Proof.Machine.execLinkRead s
  | .sweepRead => Sys2Proof.Machine.execSweepRead s
  | .noticeFetch => Sys2Proof.Machine.execNoticeFetch s
  | .noticeMask => Sys2Proof.Machine.execNoticeMask s

end Sys2Proof.Machine
end

