-- ==== Sys2Proof/Machine/Tick.lean ====
section
/-! DEFINITION. The timebase's own step. The table has no row for it: it is what `step` does when no
command waits (log entries 3 and 4). -/

namespace Sys2Proof.Machine

/-- An event of a port block whose time is reached, or that follows at once. -/
def Port.eventDue (r : Port) (now : Nat) : Bool :=
  r.renewalDue now || r.pauseDue now || r.stormDue now || reached now r.recoveryEnd
    || r.debounceDue now || r.holdDownDue now || r.controlDue || r.startDue

/-- An event of the part whose time is reached, or that follows at once: an expiry or an advance, an
AGING posting, a control message, a transmission start, a pass start, a taking. -/
def State.eventDue (s : State) : Bool :=
  decide (s.nextAging ≤ s.timebase) || s.advanceDue || s.passDue || s.takeDue
    || (List.range 40).any fun p => (s.port p).eventDue s.timebase

/-- R38: the timebase rises by 1. It does not pass an event that is due, and its end is a fault. -/
def tick (s : State) : Host.Outcome State Fault Refusal :=
  if s.eventDue then .next s
  else if s.timebase + 1 < 281474976710656 then .next { s with timebase := s.timebase + 1 }
  else .fault .timebaseExhausted

end Sys2Proof.Machine
end

