-- ==== Sys2Proof/Safety.lean ====
section
/-! DEFINITION. What a sound state of the part is: the laws that the spec says the part holds, and the
couplings between fields that its tables of fields state. Each is a predicate on one state. -/

namespace Sys2Proof.Safety

open Sys2Proof.Machine

/-! ### Tenants (R3, 1.1, R18) -/

/-- R3: a tenant open for traffic is in its derived state; R1, R18: a VACANT record holds its power-on
values. -/
def tenantSound (r : Tenant) : Prop :=
  (r.state.openForTraffic = true → r.state = r.derived) ∧ (r.state = .vacant → r = vacantTenant)

def TenantsSound (s : State) : Prop := ∀ t, tenantSound (s.tenant t)

/-- 1.1: the ranges of a class's meters. -/
def metersInRange (m : Meters) : Prop :=
  m.bytes ≤ 281474976710655 ∧ m.frames ≤ 1099511627775 ∧ m.accrued ≤ 281474976710655
    ∧ m.residue ≤ 8388607

/-- 1.1: the ranges of a record's money fields and meters. -/
def tenantInRange (r : Tenant) : Prop :=
  r.allowance ≤ 1099511627775 ∧ r.overage ≤ 1099511627775 ∧ r.ceiling ≤ 1099511627775
    ∧ ∀ c, metersInRange (r.meters.get c)

def TenantsInRange (s : State) : Prop := ∀ t, tenantInRange (s.tenant t)

/-- R19: the ranges of a profile. -/
def profileInRange (r : Profile) : Prop :=
  (∀ c, r.rates.get c ≤ 65535) ∧ r.multiplier ∈ [1, 4, 8, 16, 32] ∧ r.surcharge ≤ 7
    ∧ (∀ c, (r.demotion.get c).number ≤ c.number) ∧ r.demotion.c3 = .c3

def ProfilesInRange (s : State) : Prop := ∀ n, profileInRange (s.profile n)

/-! ### The shared buffer (R119, R4, R133, R131) -/

/-- The cells of the frames held in the four queues of a port. -/
def portCells (r : Port) : Nat :=
  cellsOf r.queues.c0 + cellsOf r.queues.c1 + cellsOf r.queues.c2 + cellsOf r.queues.c3

/-- R119: the cells of all frames held in the 160 egress queues. -/
def heldCells (s : State) : Nat := ((List.range 40).map fun p => portCells (s.port p)).sum

/-- R119: the free count plus the cells of all frames held equals 98,304. -/
def FreeCountLaw (s : State) : Prop := s.freeCount + heldCells s = 98304

/-- The frames of a queue billed to tenant `t`. -/
def framesOf (t : Nat) (l : List QFrame) : Nat := (l.filter fun f => f.tenant == t).length

/-- The frames of a port billed to tenant `t`. -/
def portFramesOf (t : Nat) (r : Port) : Nat :=
  framesOf t r.queues.c0 + framesOf t r.queues.c1 + framesOf t r.queues.c2 + framesOf t r.queues.c3

/-- R4: each tenant's in-buffer count equals the number of frames held whose billing tenant it is. -/
def InBufferLaw (s : State) : Prop :=
  ∀ t, (s.tenant t).inBuffer = ((List.range 40).map fun p => portFramesOf t (s.port p)).sum

/-- The cells of the frames of a list that entered at port `q`. -/
def cellsFrom (q : Fin 40) (l : List QFrame) : Nat := cellsOf (l.filter fun f => f.ingress == q)

/-- R120: a frame's class is its queue's class. -/
def classesMatch (r : Port) : Prop := ∀ c, ∀ f ∈ r.queues.get c, f.cls = c

/-- R133: each port's ingress lossless count equals the cells of the C2 frames held that entered there. -/
def LosslessLaw (s : State) : Prop :=
  (∀ p, classesMatch (s.port p)) ∧
  ∀ q : Fin 40, (s.port q).losslessCount
    = ((List.range 40).map fun p => cellsFrom q (s.port p).queues.c2).sum

/-- R131, R157: a port whose link is DOWN, ADMIN_DOWN or PROVING holds no frames, and a STALLED queue
holds no frames. -/
def portQuiet (r : Port) : Prop :=
  (r.link = .down ∨ r.link = .adminDown ∨ r.link = .proving → r.queues = ⟨[], [], [], []⟩)
    ∧ (r.c2State = .stalled → r.queues.c2 = [])

def PortsQuiet (s : State) : Prop := ∀ p, portQuiet (s.port p)

/-! ### Timers and transmitters (R150, R134, R140, R143, R127) -/

/-- Each timer is set exactly in the state the spec sets it in: the debounce end in SUSPECT and the
hold-down end in PROVING (R150), the renewal time in PAUSING (R134), the pause end while the queue is
PAUSED (R140), the storm timer while it is PAUSED and holds a frame (R143). -/
def portTimed (r : Port) : Prop :=
  (r.debounceEnd.isSome = true ↔ r.link = .suspect)
    ∧ (r.holdDownEnd.isSome = true ↔ r.link = .proving)
    ∧ (r.renewal.isSome = true ↔ r.ingress = .pausing)
    ∧ (r.pauseEnd.isSome = true ↔ r.c2State = .paused)
    ∧ (r.storm.isSome = true ↔ r.c2State = .paused ∧ r.queues.c2 ≠ [])

def PortsTimed (s : State) : Prop := ∀ p, portTimed (s.port p)

/-- A port transmits only while its link is UP (R127, R138, R139), and a frame in transmission is the
oldest frame of its queue, which therefore holds one (R120). -/
def portSends (r : Port) : Prop :=
  (r.transmitter ≠ .idle → r.link = .up) ∧ ∀ c, r.transmitter = .frame c → r.queues.get c ≠ []

def PortsSend (s : State) : Prop := ∀ p, portSends (s.port p)

/-- R135, R137: pause-off lies below pause-on, and the count of a PAUSING port above the pause-off of its
kind, so that no event leaves a port PAUSING whose count has fallen to pause-off. -/
def PausesSound (s : State) : Prop :=
  (∀ k, (s.pauseSettings.get k).pauseOff < (s.pauseSettings.get k).pauseOn)
    ∧ ∀ p, p < 40 → (s.port p).ingress = .pausing → (s.pauseOf p).pauseOff < (s.port p).losslessCount

/-- R38: the time of the next AGING posting (log entry 22) is the first whole multiple of 10 s, from 10 s on,
whose posting has not been made, and the timebase does not pass it (log entry 3). -/
def AgingSound (s : State) : Prop :=
  0 < s.nextAging ∧ 10000000 ∣ s.nextAging ∧ s.timebase ≤ s.nextAging
    ∧ s.nextAging ≤ s.timebase + 10000000

/-- R158: a flap history holds at most eight entries in time order, none later than now. -/
def flapsSound (now : Nat) (l : List Nat) : Prop :=
  l.length ≤ 8 ∧ l.Pairwise (· ≤ ·) ∧ ∀ t ∈ l, t ≤ now

def FlapsSound (s : State) : Prop := ∀ p, flapsSound s.timebase (s.port p).flapHistory

/-! ### The request engine (R176, R178) -/

/-- R176, R178: at most 32 requests wait and at most 32 replies, the one to come counted; every message
has 32 words. -/
def EngineBounds (s : State) : Prop :=
  s.requests.length ≤ 32
    ∧ s.replies.length + (if s.execution.any (fun e => e.keepReply) = true then 1 else 0) ≤ 32
    ∧ s.postingArea.length = 32
    ∧ (∀ m ∈ s.requests, m.length = 32) ∧ (∀ m ∈ s.replies, m.length = 32)

/-! ### Canonical data (00_scope.md "Sets, lists and optional fields") -/

/-- Every set of a list of jobs is in its canonical form. -/
def jobsCanonical (j : Jobs) : Prop :=
  setWf j.ports = true ∧ setWf j.tenants = true ∧ setWf j.sets = true

/-- Every table and every set is in its canonical form, so that equal contents are equal data. -/
def Canonical (s : State) : Prop :=
  tableWf vacantTenant s.tenants = true ∧ tableWf powerOnProfile s.profiles = true
    ∧ tableWf none s.stations = true ∧ tableWf emptyPathSet s.pathSets = true
    ∧ tableWf powerOnPin s.pins = true ∧ tableWf powerOnPort s.ports = true
    ∧ tableWf [] s.notices = true ∧ (∀ k, setWf (s.noticeSet k) = true)
    ∧ jobsCanonical s.jobs ∧ jobsCanonical s.carried

/-! ### Stations (R5, R17, R18, R78) -/

/-- The station entries of tenant `t`. -/
def entriesOf (s : State) (t : Nat) : Nat :=
  ((List.range 16384).filter fun i => (s.station i).any fun e => e.tenant == t).length

/-- R5, R78: each tenant's station count equals the number of entries bearing its number, and never
exceeds its limit. -/
def StationCountLaw (s : State) : Prop :=
  ∀ t, (s.tenant t).stationCount = entriesOf s t ∧ (s.tenant t).stationCount ≤ (s.tenant t).stationLimit

/-- Whether the running pass has visited a station slot. -/
def slotVisited (q : Pass) (i : Nat) : Prop := q.phase = .pins ∨ i < q.position

/-- Why the count of a tenant that becomes VACANT is already 0 (R18, R173): purges are of DRAINING
tenants, a purge pass leaves no entry of its tenants behind it, and a tenant that is VACANT, or DRAINING
with its purge ended, has no entry. -/
def PurgesSound (s : State) : Prop :=
  (∀ t, s.purgeOutstanding t = true → (s.tenant t).state = .draining)
    ∧ (∀ t, setHas s.jobs.tenants t = true → setHas s.carried.tenants t = false)
    ∧ (∀ q, s.pass = some q → q.phase = .stations → q.position < 16384)
    ∧ (∀ q t i, s.pass = some q → setHas q.carried.tenants t = true → slotVisited q i →
        i < 16384 → (s.station i).any (fun e => e.tenant == t) = false)
    ∧ ∀ t, ((s.tenant t).state = .vacant ∨
        (s.tenant t).state = .draining ∧ s.purgeOutstanding t = false) → entriesOf s t = 0

/-- R62, R63, R64: each slot's entry stands in the bucket of its key, whose tenant is below 1,024 and whose
address is a unicast one; a LEARNED entry names a downlink; and no key has two entries. -/
def KeysSound (s : State) : Prop :=
  (∀ i e, s.station i = some e →
    i < 16384 ∧ i / 4 = stationBucket e.tenant e.address ∧ e.tenant < 1024
      ∧ isGroup e.address = false ∧ (e.kind = .learned → ∃ p, e.target = .downlink p))
  ∧ ∀ i j e e', s.station i = some e → s.station j = some e' →
      e.tenant = e'.tenant → e.address = e'.address → i = j

/-- R5 and R18 together, as one law that every step keeps. -/
def StationsSound (s : State) : Prop := StationCountLaw s ∧ PurgesSound s ∧ TenantsSound s

/-! ### The words that statements about requests use (R7, R179, R182) -/

/-- The request in execution is `m`, of kind `k`; its reply is appended when `keep` holds (R188). -/
def Running (s : State) (k : Nat) (m : Message) (keep : Bool) : Prop :=
  s.execution = some { message := m, keepReply := keep } ∧ kindOf m = k

/-- R179: `s` once the request `m` is answered: no request is in execution, and the reply is appended,
or discarded when a control reset came during the execution (R188). -/
def answered (m : Message) (keep : Bool) (st : Status) (body : List Word) (s : State) : State :=
  { s with
    execution := none
    replies := if keep then s.replies ++ [replyTo m st body] else s.replies }

/-- R182: the row whose event a request is. LINK_ADMIN has two rows, by its direction
(log entry 17). -/
def requestRow (m : Message) : Instr :=
  match kindOf m with
  | 1 => .tenantOpen | 2 => .tenantAmend | 3 => .tenantTopup | 4 => .tenantCollect
  | 5 => .tenantRead | 6 => .tenantSuspend | 7 => .tenantResume | 8 => .tenantRetire
  | 9 => .profileWrite | 10 => .profileRead | 11 => .clockSet | 12 => .clockRead
  | 13 => .stationInsert | 14 => .stationFind | 15 => .stationRemove | 16 => .stationAging
  | 17 => .pathsetWrite | 18 => .pathsetRead | 19 => .pinRead | 20 => .policyWrite
  | 21 => .queueRead | 22 => .pauseWrite | 23 => .pauseRead
  | 24 => if num m 2 = 1 then .linkAdminUp else .linkAdminDown
  | 25 => .linkTiming | 26 => .linkRead | 27 => .sweepRead | 28 => .noticeFetch
  | 29 => .noticeMask
  | _ => .unknownKind

/-- The rows that are the effect event of a request. -/
def requestRows : List Instr :=
  [.unknownKind, .tenantOpen, .tenantAmend, .tenantTopup, .tenantCollect, .tenantRead, .tenantSuspend,
    .tenantResume, .tenantRetire, .profileWrite, .profileRead, .clockSet, .clockRead, .stationInsert,
    .stationFind, .stationRemove, .stationAging, .pathsetWrite, .pathsetRead, .pinRead, .policyWrite,
    .queueRead, .pauseWrite, .pauseRead, .linkAdminDown, .linkAdminUp, .linkTiming, .linkRead,
    .sweepRead, .noticeFetch, .noticeMask]

/-- R7, check 1: the body fields of a tenant request of kind `k` lie within their ranges. -/
def tenantBodyInRange (k : Nat) (m : Message) : Bool :=
  if k = 1 then
    num m 2 ≤ 15 && (optionalSet m 4).isSome && num m 5 ≤ 16384 && num2 m 6 ≤ 1099511627775
      && num2 m 8 ≤ 1099511627775
  else if k = 2 then
    num m 2 ≤ 15 && (optionalSet m 4).isSome && num m 5 ≤ 16384 && num2 m 6 ≤ 1099511627775
  else if k = 3 then num2 m 2 ≤ 1099511627775
  else true

/-- R8 to R16: the states in which a record admits a tenant request of kind `k`. -/
def tenantStates (k : Nat) : List TenantState :=
  if k = 1 then [.vacant]
  else if k = 2 ∨ k = 3 ∨ k = 8 then [.active, .overage, .throttled, .suspended]
  else if k = 6 then [.active, .overage, .throttled]
  else if k = 7 then [.suspended]
  else [.active, .overage, .throttled, .suspended, .draining]

/-- R7: the first status that refuses a tenant request of kind `k` on record `r`, if any. -/
def tenantRefusal (k : Nat) (m : Message) (r : Tenant) : Option Status :=
  if 1024 ≤ num m 1 ∨ tenantBodyInRange k m = false then some .malformed
  else if k ≠ 1 ∧ r.state = .vacant then some .noTenant
  else if r.state ∉ tenantStates k then some (if k = 1 then .notVacant else .badState)
  else if k = 2 ∧ num m 5 < r.stationCount then some .limit
  else none

/-! ### The words that statements about frames use (R45, R127, R131) -/

/-- R45: a frame taken at a port passes the four checks. -/
def FrameAccepted (s : State) (p : Fin 40) (bytes : List Byte) : Prop :=
  64 ≤ bytes.length ∧ bytes.length ≤ 9216 ∧ (readFrame bytes).tagType = 0xB7A4
    ∧ (s.tenant (readFrame bytes).tenant).state ∈ [.active, .overage, .throttled]
    ∧ (p.val < 32 → (s.tenant (readFrame bytes).tenant).portSet.getLsbD p.val = true)

/-- R43: a received frame is handed to Intake. -/
def FrameHandedOver (s : State) (p : Nat) (checkGood : Bool) (bytes : List Byte) : Prop :=
  checkGood = true ∧ isPauseMessage bytes = false ∧ (s.port p).link = .up

/-- R124: a copy offered to a queue of port `p` passes the six tests. -/
def CopyPasses (s : State) (c : Copy) (p : Nat) : Prop :=
  (s.port p).link = .up ∧ c.cells ≤ s.freeCount
    ∧ (c.cls ≠ .c2 → s.occupancy p c.cls + c.cells ≤ (s.policy (kindOfPort p) c.cls).drop)
    ∧ (c.throttled = true → s.occupancy p .c0 + c.cells ≤ (s.policy (kindOfPort p) .c0).throttle)
    ∧ ¬(c.cls = .c2 ∧ (s.port p).c2State = .stalled)
    ∧ (s.tenant c.tenant).state ≠ .vacant

/-- A port's fields other than its queues, transmitter, lossless count, ingress side and storm timer are
those of `r`. -/
def SamePortState (r r' : Port) : Prop :=
  r'.link = r.link ∧ r'.lane = r.lane ∧ r'.debounceEnd = r.debounceEnd
    ∧ r'.holdDownEnd = r.holdDownEnd ∧ r'.flapHistory = r.flapHistory ∧ r'.rotation = r.rotation
    ∧ r'.c2State = r.c2State ∧ r'.pauseEnd = r.pauseEnd ∧ r'.recoveryEnd = r.recoveryEnd
    ∧ r'.stormHold = r.stormHold

/-- Nothing changes but the frames held and what the spec ties to them: the ports, the tenants, the
free count, the notices and the interrupt messages sent. -/
def OnlyBufferChanged (s t : State) : Prop :=
  t = { s with
    ports := t.ports, tenants := t.tenants, freeCount := t.freeCount, notices := t.notices,
    interruptsSent := t.interruptsSent }

/-- R18: `n` frames of tenant `u` that leave the buffer uncharged bring it to VACANT. -/
def ReturnsToVacant (s : State) (u n : Nat) : Prop :=
  0 < n ∧ (s.tenant u).state = .draining ∧ (s.tenant u).inBuffer ≤ n ∧ s.purgeOutstanding u = false

/-- R4, R18, R130, R131: `count u` frames of each tenant `u` have left the buffer uncharged between `s`
and `t`. A tenant's record differs in its in-buffer count alone, or is the VACANT record, with PURGE_DONE
pended, exactly when R18 requires. -/
def LeftUncharged (s t : State) (count : Nat → Nat) : Prop :=
  (∀ u, (ReturnsToVacant s u (count u) → t.tenant u = vacantTenant)
    ∧ (¬ReturnsToVacant s u (count u) →
        t.tenant u = { s.tenant u with inBuffer := (s.tenant u).inBuffer - count u }))
  ∧ ∀ u, u ∈ t.noticeSet .purgeDone ↔
      u ∈ s.noticeSet .purgeDone ∨ ReturnsToVacant s u (count u)

/-- R137: the C2 frames `left` have left the buffer between `s` and `t`. The ingress side of port `q` returns
to FLOWING, with its resume, exactly when it is PAUSING, one of them entered at `q`, and the count they leave
is at or below pause-off. -/
def IngressFollows (s t : State) (left : List QFrame) (q : Nat) : Prop :=
  ∀ falls : Prop, (falls ↔ (∃ f ∈ left, f.ingress.val = q) ∧ (s.port q).ingress = .pausing
      ∧ (t.port q).losslessCount ≤ (s.pauseOf q).pauseOff) →
    (falls → (t.port q).ingress = .flowing ∧ (t.port q).slot = some .resume ∧ (t.port q).renewal = none)
    ∧ (¬falls → (t.port q).ingress = (s.port q).ingress ∧ (t.port q).slot = (s.port q).slot
        ∧ (t.port q).renewal = (s.port q).renewal)

/-! ### The words that statements about walks use (R85 to R88) -/

/-- R86, R87: member `m` at index `i` of set `r` is the one a walk chooses: the first usable one, looking at
the indices upward from the pick value or from the cursor and passing from the last index to index 0. -/
def Chosen (usable : Member → Bool) (r : PathSet) (hashHigh i : Nat) (m : Member) : Prop :=
  r.members[i]? = some m ∧ usable m = true
    ∧ ∃ start d, (r.mode = .hashed → start = hashHigh % r.members.length)
      ∧ (r.mode = .rotating → start = r.cursor)
      ∧ d < r.members.length ∧ i = (start + d) % r.members.length
      ∧ ∀ e, e < d → ∀ x, r.members[(start + e) % r.members.length]? = some x → usable x = false

/-- R85: a set has no usable member. -/
def NothingUsable (usable : Member → Bool) (r : PathSet) : Prop := ∀ m ∈ r.members, usable m = false

/-- R87: the sets after the choice of index `i` in set `n`: the cursor of a ROTATING set stands one past
`i`. -/
def setsAfterChoice (sets : Table PathSet) (n : Fin 64) (i : Nat) : Table PathSet :=
  let r := tableGet emptyPathSet sets n
  tableSet emptyPathSet sets n
    { r with cursor := if r.mode = .rotating then (i + 1) % r.members.length else r.cursor }

/-- R85, R88: a visit of set `n` makes a walk go on to set `n'`, by the fallback or by a redirect chosen,
and leaves the sets as `sets'`. -/
def VisitGoesOn (usable : Member → Bool) (hashHigh : Nat) (n : Fin 64) (sets : Table PathSet)
    (n' : Fin 64) (sets' : Table PathSet) : Prop :=
  (NothingUsable usable (tableGet emptyPathSet sets n)
    ∧ (tableGet emptyPathSet sets n).fallback = some n' ∧ sets' = sets)
  ∨ ∃ i, Chosen usable (tableGet emptyPathSet sets n) hashHigh i (.redirect n')
    ∧ sets' = setsAfterChoice sets n i

/-- R113: the gap a congestion move of class `c` requires in set `r`: the highest of the applicable ones. -/
def requiredCongestionGap (r : PathSet) (c : Cls) : Nat :=
  (if c = .c2 then [r.flowlet, r.lossless] else [r.flowlet]).foldl max 0

/-- R113: the gap a restore of class `c` requires in the home's set `r`. -/
def requiredRestoreGap (r : PathSet) (c : Cls) (across : Bool) : Nat :=
  ([r.flowlet, r.restore] ++ (if across then [r.setchange] else [])
    ++ (if c = .c2 then [r.lossless] else [])).foldl max 0

/-- R109: the conditions of the restore move of pin `r` for a copy of class `c`. -/
def RestoreHolds (s : State) (r : Pin) (c : Cls) : Prop :=
  r.current ≠ r.home ∧ s.placeUsable r.home = true
    ∧ (∃ v : Fin 8, s.uplinkOf r.home = some v
        ∧ s.occupancy (32 + v.val) c < (s.policy .uplink c).resteer)
    ∧ requiredRestoreGap (s.pathSet r.home.set) c (decide (r.home.set ≠ r.current.set))
        ≤ s.timebase - r.lastUse

/-- R110: the conditions of the congestion move of pin `r`, whose place names uplink `u`. -/
def CongestionHolds (s : State) (r : Pin) (u : Fin 8) (c : Cls) : Prop :=
  (s.policy .uplink c).resteer ≤ s.occupancy (32 + u.val) c ∧ s.candidates r.current.set u c ≠ []
    ∧ requiredCongestionGap (s.pathSet r.current.set) c ≤ s.timebase - r.lastUse

end Sys2Proof.Safety
end

