-- ==== Sys2Proof/WellFormed.lean ====
section
/-! DEFINITION. Which commands name something the part has (00_scope.md "Ports"; R175). A request
has no operand, so every request is well-formed: what its words hold is checked by its rule. -/

namespace Sys2Proof

/-- Whether a command's operands name something the part has. -/
def Instr.wellFormed : Instr → Bool
  | .powerOn => true
  | .controlReset => true
  | .frameTaken p _ _ => p < 40
  | .pauseMessageReceived p _ _ => p < 40
  | .resolutionEvent _ => true
  | .admission _ => true
  | .transmissionStart p => p < 40
  | .transmissionCompletion p => p < 40
  | .controlMessageSend p => p < 40
  | .controlMessageEnd p => p < 40
  | .renewalExpiry p => p < 40
  | .pauseExpiry p => p < 40
  | .stormExpiry p => p < 40
  | .recoveryExpiry p => p < 40
  | .laneLoss p => p < 40
  | .laneLock p => p < 40
  | .debounceExpiry p => p < 40
  | .holdDownExpiry p => p < 40
  | .agingPosting => true
  | .clockAdvance => true
  | .passStart => true
  | .stationVisit => true
  | .pinVisit => true
  | .passEnd => true
  | .postingAreaWrite i _ => i < 31
  | .post _ => true
  | .release w => w.getLsbD 0
  | .overrunFlagClear w => w.getLsbD 1
  | .requestTake => true
  | .unknownKind => true
  | .tenantOpen => true
  | .tenantAmend => true
  | .tenantTopup => true
  | .tenantCollect => true
  | .tenantRead => true
  | .tenantSuspend => true
  | .tenantResume => true
  | .tenantRetire => true
  | .profileWrite => true
  | .profileRead => true
  | .clockSet => true
  | .clockRead => true
  | .stationInsert => true
  | .stationFind => true
  | .stationRemove => true
  | .stationAging => true
  | .pathsetWrite => true
  | .pathsetRead => true
  | .pinRead => true
  | .policyWrite => true
  | .queueRead => true
  | .pauseWrite => true
  | .pauseRead => true
  | .linkAdminDown => true
  | .linkAdminUp => true
  | .linkTiming => true
  | .linkRead => true
  | .sweepRead => true
  | .noticeFetch => true
  | .noticeMask => true

end Sys2Proof
end

