-- ==== Sys2Proof/Certificates/Slice0/Obligations.lean ====
section
/-! DEFINITION. The statements for the provers. `exec c s = .next { s with … }` states the frame with
the result: every field not named is unchanged. `answered` is the end of a request (R179), stated by
`EachRequestIsAnsweredOnceByItsOwnRow`. `pend` is stated by `PendingANoticeAddsItsSource`. -/

open Sys2Proof Sys2Proof.Machine Sys2Proof.Safety

/-! ### The machine -/

/-- Log entry 1: a step takes the command at the front of the queue and runs it. -/
def Obligations.StepRunsTheFrontCommand : Prop :=
  ∀ (s : State) (c : Instr) (rest : List Instr),
    step { s with pending := c :: rest } = exec c { s with pending := rest }

/-- R38, R39; log entries 3 and 4: with no command waiting the timebase counts a microsecond, unless an
event is due, and the end of its 48 bits is a fault (these cases are the model's choice). When the model's
own field `nextAging` (log entry 22) is reached the AGING job is posted and the field moves on by 10 s;
`EveryStepKeepsHistoriesAndQueuesBounded` says that it is a whole multiple of 10 s. A set clock advances by
a minute, from 1,439 to 0. -/
def Obligations.TheTimebaseCountsAndPosts : Prop :=
  (∀ s : State, s.pending = [] →
     (s.eventDue = true → step s = .next s)
     ∧ (s.eventDue = false → s.timebase + 1 < 281474976710656 →
         step s = .next { s with timebase := s.timebase + 1 })
     ∧ (s.eventDue = false → 281474976710656 ≤ s.timebase + 1 → step s = .fault .timebaseExhausted))
  ∧ ((∀ s : State, s.nextAging ≤ s.timebase →
       exec .agingPosting s = .next { s with
         nextAging := 10000000 + s.nextAging, jobs := { s.jobs with aging := true } })
     ∧ (∀ (s : State) (n x : Nat), s.clock = { valid := true, minute := n, nextAdvance := some x } →
         n ≤ 1439 → x ≤ s.timebase →
         exec .clockAdvance s = .next { s with
           clock := { valid := true, minute := if n = 1439 then 0 else n + 1,
                      nextAdvance := some (60000000 + x) } }))

/-- Log entry 1: the commands that wait are the sender's; no command changes them. -/
def Obligations.CommandsLeaveTheQueue : Prop :=
  ∀ (c : Instr) (s t : State), exec c s = .next t → t.pending = s.pending

/-- Log entry 2 (the model's choice): a command stops only when it names something the part has not. -/
def Obligations.OnlyIllFormedCommandsStop : Prop :=
  ∀ (c : Instr) (s : State),
    (c.wellFormed = true → ∃ t, exec c s = .next t)
    ∧ (c.wellFormed = false → exec c s = .refused .illFormed)

/-- POWER_ON gives every record, table, queue, timer and setting the power-on value its rule states,
whatever the part held; the commands that wait stay (log entry 1). -/
def Obligations.PowerOnGivesEveryPowerOnValue : Prop :=
  ∀ s : State, ∃ t, exec .powerOn s = .next t ∧ t = { State.reset with pending := s.pending }
    ∧ (∀ n, t.tenant n =
        { state := .vacant, profile := 0, portSet := 0#32, defaultPath := none, stationLimit := 0,
          stationCount := 0, allowance := 0, overage := 0, ceiling := 0, inBuffer := 0,
          saturated := false,
          meters := ⟨⟨0, 0, 0, 0⟩, ⟨0, 0, 0, 0⟩, ⟨0, 0, 0, 0⟩, ⟨0, 0, 0, 0⟩⟩ })
    ∧ (∀ n, t.profile n =
        { rates := ⟨0, 0, 0, 0⟩, multiplier := 1, mapC0 := false, mapC1 := false, mapC3 := false,
          surcharge := 0, peakHours := 0#24, demotion := ⟨.c0, .c1, .c2, .c3⟩ })
    ∧ t.timebase = 0 ∧ t.clock = { valid := false, minute := 0, nextAdvance := none }
    ∧ (∀ i, t.station i = none) ∧ t.agingInterval = 300 ∧ t.pinExpiry = 10
    ∧ (∀ n, t.pathSet n =
        { mode := .hashed, members := [], fallback := none, cursor := 0, flowlet := 0, restore := 0,
          setchange := 0, lossless := 0 })
    ∧ (∀ i, t.pin i =
        { valid := false, check := 0#16, origin := 0, current := ⟨0, 0⟩, home := ⟨0, 0⟩, lastUse := 0 })
    ∧ (∀ p, t.port p =
        { link := .down, lane := .lost, debounceEnd := none, holdDownEnd := none, flapHistory := [],
          losslessCount := 0, ingress := .flowing, renewal := none, slot := none,
          queues := ⟨[], [], [], []⟩, transmitter := .idle, rotation := 0, c2State := .ready,
          pauseEnd := none, storm := none, recoveryEnd := none, stormHold := false })
    ∧ t.freeCount = 98304
    ∧ (∀ k c, t.policy k c = { mark := 98304, drop := 98304, resteer := 98304, throttle := 98304 })
    ∧ t.pauseSettings =
        ⟨{ pauseOn := 1024, pauseOff := 512, quantum := 20000 },
          { pauseOn := 2048, pauseOff := 1024, quantum := 20000 }⟩
    ∧ t.linkSettings =
        { debounceMs := 10, baseMs := 2000, penaltyS := 30, threshold := 3, windowS := 60,
          stormBudget := 19, recoveryMs := 5000 }
    ∧ t.jobs = { aging := false, ports := [], tenants := [], sets := [] } ∧ t.pass = none
    ∧ t.postingArea = List.replicate 32 0#32 ∧ t.requests = [] ∧ t.execution = none ∧ t.replies = []
    ∧ t.overrun = false ∧ (∀ k, t.noticeSet k = []) ∧ (∀ k, t.masked k = true)

/-- CONTROL_RESET empties both queues, the posting area, the overrun flag and the pending sets, masks
every kind, and leaves everything else. A request in execution stays, its reply to be discarded. -/
def Obligations.ControlResetEmptiesTheHostSide : Prop :=
  ∀ s : State, ∃ t, exec .controlReset s = .next t
    ∧ t = { s with
        requests := [], replies := [], postingArea := List.replicate 32 0#32, overrun := false,
        notices := t.notices, masks := t.masks, execution := t.execution }
    ∧ (∀ k, t.noticeSet k = []) ∧ (∀ k, t.masked k = true) ∧ t.interruptCondition = false
    ∧ (s.execution = none → t.execution = none)
    ∧ ∀ m keep, s.execution = some { message := m, keepReply := keep } →
        t.execution = some { message := m, keepReply := false }

/-! ### The request engine and the notices -/

/-- R177, R178, R180, R182: the host's writes act on the posting area, the request queue, the oldest reply and
the overrun flag; a taking moves the oldest request into execution when the engine and a reply slot are
free; an unknown kind is refused with MALFORMED. -/
def Obligations.HostWritesAndTakingsActAtOnce : Prop :=
  ((∀ (s : State) (i : Nat) (w : Word), i < 31 →
     exec (.postingAreaWrite i w) s = .next { s with postingArea := s.postingArea.set i w })
   ∧ (∀ (s : State) (w : Word), s.requests.length < 32 →
       exec (.post w) s = .next { s with
         postingArea := s.postingArea.set 31 w
         requests := s.requests ++ [s.postingArea.set 31 w] })
   ∧ (∀ (s : State) (w : Word), 32 ≤ s.requests.length →
       exec (.post w) s = .next (pend .postingOverrun 0
         { s with postingArea := s.postingArea.set 31 w, overrun := true }))
   ∧ (∀ (s : State) (w : Word), w.getLsbD 0 = true →
       exec (.release w) s = .next { s with
         replies := s.replies.drop 1
         overrun := s.overrun && !w.getLsbD 1 })
   ∧ (∀ (s : State) (w : Word), w.getLsbD 1 = true →
       exec (.overrunFlagClear w) s = .next { s with
         replies := if w.getLsbD 0 then s.replies.drop 1 else s.replies
         overrun := false }))
  ∧ (∀ (s : State) (m : Message) (rest : List Message), s.requests = m :: rest → s.execution = none →
       s.replies.length < 32 →
       exec .requestTake s = .next { s with
         requests := rest
         execution := some { message := m, keepReply := true } })
  ∧ (∀ (s : State) (m : Message) (keep : Bool), s.execution = some { message := m, keepReply := keep } →
       (kindOf m = 0 ∨ 29 < kindOf m) → exec .unknownKind s = .next (answered m keep .malformed [] s))

/-- In its effect event a request is answered once, with its kind number and host tag, and is then no
longer in execution; no other request row acts on it (log entries 1 and 27). -/
def Obligations.EachRequestIsAnsweredOnceByItsOwnRow : Prop :=
  (∀ (s : State) (m : Message) (keep : Bool), s.execution = some { message := m, keepReply := keep } →
    (∃ t st body, exec (requestRow m) s = .next t ∧ t.execution = none
      ∧ t.replies = (if keep then s.replies ++ [replyTo m st body] else s.replies)
      ∧ t.requests = s.requests ∧ t.postingArea = s.postingArea ∧ t.overrun = s.overrun)
    ∧ ∀ c ∈ requestRows, c ≠ requestRow m → exec c s = .next s)
  ∧ (∀ (s : State), s.execution = none → ∀ c ∈ requestRows, exec c s = .next s)
  ∧ ∀ (m : Message) (st : Status) (body : List Word),
      (replyTo m st body).length = 32 ∧ kindOf (replyTo m st body) = kindOf m
      ∧ num (replyTo m st body) 0 / 256 % 256 = st.code ∧ tagOf (replyTo m st body) = tagOf m

/-- The status word shows the free slots, the reply count, the overrun flag and the interrupt condition;
the posting area reads back and the reply area shows the oldest reply. -/
def Obligations.TheHostWindowReadsBack : Prop :=
  ∀ s : State, EngineBounds s →
    (∃ w, s.windowRead 64 = some w
      ∧ (w.extractLsb' 0 6).toNat = 32 - s.requests.length
      ∧ (w.extractLsb' 8 6).toNat = s.replies.length
      ∧ w.getLsbD 16 = s.overrun ∧ w.getLsbD 17 = s.interruptCondition)
    ∧ (∀ i, i < 32 → s.windowRead i = s.postingArea[i]?)
    ∧ (∀ i, i < 32 → ∀ m rest, s.replies = m :: rest → s.windowRead (32 + i) = m[i]?)
    ∧ (∀ i, i < 32 → s.replies = [] → s.windowRead (32 + i) = some 0#32)

/-- A pend adds its source to its kind's pending set, once, and changes no other set; it sends a message
exactly when it turns the interrupt condition. -/
def Obligations.PendingANoticeAddsItsSource : Prop :=
  ∀ (k : NoticeKind) (x : Nat) (s : State),
    pend k x s = { s with
      notices := (pend k x s).notices, interruptsSent := (pend k x s).interruptsSent }
    ∧ (∀ y, y ∈ (pend k x s).noticeSet k ↔ y = x ∨ y ∈ s.noticeSet k)
    ∧ (setWf (s.noticeSet k) = true → setWf ((pend k x s).noticeSet k) = true)
    ∧ (∀ j, j ≠ k → (pend k x s).noticeSet j = s.noticeSet j)
    ∧ (pend k x s).interruptsSent
        = s.interruptsSent + (!s.interruptCondition && (pend k x s).interruptCondition).toNat

/-- Every command but POWER_ON sends one interrupt message when it turns the condition from not holding
to holding, and none otherwise. -/
def Obligations.InterruptsFollowTheCondition : Prop :=
  ∀ (c : Instr) (s t : State), c ≠ .powerOn → exec c s = .next t →
    t.interruptsSent = s.interruptsSent + (!s.interruptCondition && t.interruptCondition).toNat

/-- R185, R186, R192: NOTICE_FETCH takes the lowest source of the eligible kind of highest priority, or answers
NONE; its flag is word 1, 0 or 1 (log entry 13). NOTICE_MASK gives each mask flag its value and touches no
pending set; bits 31 to 11 of its word are not read (log entry 15). Bit `n` of the pending summary tells
whether the kind of priority `n + 1` has a source pending. -/
def Obligations.NoticeRequestsFetchAndMask : Prop :=
  ((∀ (s : State) (m : Message) (keep : Bool) (k : NoticeKind) (x : Nat), Running s 28 m keep →
     num m 1 ≤ 1 → (num m 1 = 1 ∨ s.masked k = false) → x ∈ s.noticeSet k →
     (∀ y ∈ s.noticeSet k, x ≤ y) →
     (∀ j : NoticeKind, j.number < k.number → s.noticeSet j = [] ∨ num m 1 = 0 ∧ s.masked j = true) →
     ∃ t, exec .noticeFetch s = .next (answered m keep .done
         [out k.number, out x, out (t.noticeSet k).length, out t.pendingSummary, out s.masks.toNat] t)
       ∧ t = { s with notices := t.notices }
       ∧ (∀ y, y ∈ t.noticeSet k ↔ y ∈ s.noticeSet k ∧ y ≠ x)
       ∧ ∀ j, j ≠ k → t.noticeSet j = s.noticeSet j)
   ∧ (∀ (s : State) (m : Message) (keep : Bool), Running s 28 m keep → num m 1 ≤ 1 →
       (∀ j : NoticeKind, s.noticeSet j = [] ∨ num m 1 = 0 ∧ s.masked j = true) →
       exec .noticeFetch s = .next (answered m keep .done
         [0#32, 0#32, 0#32, out s.pendingSummary, out s.masks.toNat] s)))
  ∧ (∀ (s : State) (m : Message) (keep : Bool), Running s 29 m keep →
       ∃ t, exec .noticeMask s = .next (answered m keep .done
           [out (num m 1 % 2048), out s.pendingSummary] t)
         ∧ t = { s with masks := t.masks, interruptsSent := t.interruptsSent }
         ∧ (∀ k : NoticeKind, t.masked k = (word m 1).getLsbD (k.number - 1))
         ∧ t.interruptsSent
             = s.interruptsSent + (!s.interruptCondition && t.interruptCondition).toNat)
  ∧ ∀ (s : State) (n : Nat), s.pendingSummary < 2048
      ∧ ((out s.pendingSummary).getLsbD n = true ↔
          ∃ k : NoticeKind, k.number = n + 1 ∧ s.noticeSet k ≠ [])

/-! ### Tenants -/

/-- R8, R9: TENANT_OPEN writes the six values given into a VACANT record and zeroes its meters. TENANT_AMEND
writes all five fields and then the derived state, unless the tenant is SUSPENDED. -/
def Obligations.TenantOpenAndAmendWriteTheRecord : Prop :=
  (∀ (s : State) (m : Message) (keep : Bool) (path : Option (Fin 64)), Running s 1 m keep →
     num m 1 < 1024 → num m 2 < 16 → optionalSet m 4 = some path → num m 5 ≤ 16384 →
     num2 m 6 ≤ 1099511627775 → num2 m 8 ≤ 1099511627775 → (s.tenant (num m 1)).state = .vacant →
     exec .tenantOpen s = .next (answered m keep .done [if 0 < num2 m 6 then 1#32 else 2#32]
       (s.setTenant (num m 1)
         { state := if 0 < num2 m 6 then .active else .overage
           profile := num m 2, portSet := word m 3, defaultPath := path, stationLimit := num m 5
           stationCount := (s.tenant (num m 1)).stationCount
           allowance := num2 m 6, overage := 0, ceiling := num2 m 8
           inBuffer := (s.tenant (num m 1)).inBuffer, saturated := false
           meters := ⟨⟨0, 0, 0, 0⟩, ⟨0, 0, 0, 0⟩, ⟨0, 0, 0, 0⟩, ⟨0, 0, 0, 0⟩⟩ })))
  ∧ (∀ (s : State) (m : Message) (keep : Bool) (path : Option (Fin 64)), Running s 2 m keep →
       num m 1 < 1024 → num m 2 < 16 → optionalSet m 4 = some path → num m 5 ≤ 16384 →
       num2 m 6 ≤ 1099511627775 → (s.tenant (num m 1)).state.inContract = true →
       (s.tenant (num m 1)).stationCount ≤ num m 5 →
       ∃ st, (st = if (s.tenant (num m 1)).state = .suspended then .suspended
           else derivedState (s.tenant (num m 1)).allowance (s.tenant (num m 1)).overage (num2 m 6))
         ∧ exec .tenantAmend s = .next (answered m keep .done [out st.number]
           (s.setTenant (num m 1) { s.tenant (num m 1) with
             state := st, profile := num m 2, portSet := word m 3, defaultPath := path
             stationLimit := num m 5, ceiling := num2 m 6 })))

/-- R10, R11: TENANT_TOPUP adds to the allowance, held at 2^40 - 1. TENANT_COLLECT reports the record, then
zeroes the meters but for the residues, the overage and the saturation flag. Each re-derives the state of a
tenant open for traffic. The tenant number in word 1 and the amount in words 2 and 3 are log entry 8. -/
def Obligations.TenantTopupAndCollectMoveTheMoney : Prop :=
  (∀ (s : State) (m : Message) (keep : Bool), Running s 3 m keep → num m 1 < 1024 →
     num2 m 2 ≤ 1099511627775 → (s.tenant (num m 1)).state.inContract = true →
     ∃ a st,
       (a = if 1099511627775 < (s.tenant (num m 1)).allowance + num2 m 2 then 1099511627775
         else (s.tenant (num m 1)).allowance + num2 m 2)
       ∧ (st = if (s.tenant (num m 1)).state = .suspended then .suspended
           else derivedState a (s.tenant (num m 1)).overage (s.tenant (num m 1)).ceiling)
       ∧ exec .tenantTopup s = .next (answered m keep
           (if 1099511627775 < (s.tenant (num m 1)).allowance + num2 m 2 then .doneClamped else .done)
           [out a, out (a / 4294967296), out st.number]
           (s.setTenant (num m 1) { s.tenant (num m 1) with state := st, allowance := a })))
  ∧ (∀ (s : State) (m : Message) (keep : Bool), Running s 4 m keep → num m 1 < 1024 →
       (s.tenant (num m 1)).state ≠ .vacant →
       ∃ r', (∀ c, r'.meters.get c = ⟨0, 0, 0, ((s.tenant (num m 1)).meters.get c).residue⟩)
         ∧ (r'.state = if (s.tenant (num m 1)).state.openForTraffic = true
             then derivedState (s.tenant (num m 1)).allowance 0 (s.tenant (num m 1)).ceiling
             else (s.tenant (num m 1)).state)
         ∧ r' = { s.tenant (num m 1) with
             overage := 0, saturated := false, state := r'.state, meters := r'.meters }
         ∧ exec .tenantCollect s = .next (answered m keep .done
             (tenantReport (s.tenant (num m 1)) r'.state) (s.setTenant (num m 1) r')))

/-- R12, R191. TENANT_READ answers in every state but VACANT with the tenant report and changes nothing; the
report's state after equals its state, and is a function of the record alone. A report packs a record whose
fields are in their ranges as R191's table gives. -/
def Obligations.TenantReadChangesNothing : Prop :=
  (∀ (s : State) (m : Message) (keep : Bool), Running s 5 m keep → num m 1 < 1024 →
     ((s.tenant (num m 1)).state = .vacant →
       exec .tenantRead s = .next (answered m keep .noTenant [] s))
     ∧ ((s.tenant (num m 1)).state ≠ .vacant →
       exec .tenantRead s = .next (answered m keep .done
         (tenantReport (s.tenant (num m 1)) (s.tenant (num m 1)).state) s)))
  ∧ (∀ (m x : Message) (st : Status) (r : Tenant) (after : TenantState), tenantInRange r →
       r.profile ≤ 15 → r.stationLimit ≤ 16384 → r.stationCount ≤ r.stationLimit → r.inBuffer ≤ 98304 →
       x = replyTo m st (tenantReport r after) →
       num x 1 = r.state.number + 16 * after.number + 256 * r.profile + 4096 * r.saturated.toNat
       ∧ word x 2 = r.portSet
       ∧ (r.defaultPath = none → num x 3 = 0) ∧ (∀ n, r.defaultPath = some n → num x 3 = 2147483648 + n)
       ∧ num x 4 = r.stationLimit + 65536 * r.stationCount
       ∧ num2 x 5 = r.allowance ∧ num2 x 7 = r.overage ∧ num2 x 9 = r.ceiling ∧ num x 11 = r.inBuffer
       ∧ ∀ c i, i = 12 + 5 * Cls.number c →
           num x i + 4294967296 * (num x (i + 1) % 65536) = (r.meters.get c).bytes
           ∧ num x (i + 2) + 4294967296 * (num x (i + 1) / 65536) = (r.meters.get c).accrued
           ∧ num x (i + 3) + 4294967296 * (num x (i + 4) % 256) = (r.meters.get c).frames
           ∧ num x (i + 4) / 256 = (r.meters.get c).residue)
  ∧ [TenantState.vacant, .active, .overage, .throttled, .suspended, .draining].map TenantState.number
      = [0, 1, 2, 3, 4, 5]

/-- TENANT_SUSPEND, TENANT_RESUME and TENANT_RETIRE move the state; a retirement posts the purge. -/
def Obligations.SuspendResumeAndRetireMoveTheState : Prop :=
  ∀ (s : State) (m : Message) (keep : Bool), num m 1 < 1024 →
    (Running s 6 m keep → (s.tenant (num m 1)).state.openForTraffic = true →
      exec .tenantSuspend s = .next (answered m keep .done [4#32]
        (s.setTenant (num m 1) { s.tenant (num m 1) with state := .suspended })))
    ∧ (Running s 7 m keep → (s.tenant (num m 1)).state = .suspended →
      ∃ st, st = derivedState (s.tenant (num m 1)).allowance (s.tenant (num m 1)).overage
          (s.tenant (num m 1)).ceiling
        ∧ exec .tenantResume s = .next (answered m keep .done [out st.number]
          (s.setTenant (num m 1) { s.tenant (num m 1) with state := st })))
    ∧ (Running s 8 m keep → (s.tenant (num m 1)).state.inContract = true →
      exec .tenantRetire s = .next (answered m keep .done
        (tenantReport (s.tenant (num m 1)) .draining)
        { s.setTenant (num m 1) { s.tenant (num m 1) with state := .draining } with
          jobs := { s.jobs with tenants := setInsert s.jobs.tenants (num m 1) } }))

/-- A tenant request is refused with the first status that applies, in R7's order, and changes nothing. -/
def Obligations.TenantRequestsRefuseInOrder : Prop :=
  ∀ (s : State) (m : Message) (keep : Bool) (st : Status) (c : Instr) (k : Nat),
    (c, k) ∈ [(Instr.tenantOpen, 1), (.tenantAmend, 2), (.tenantTopup, 3), (.tenantCollect, 4),
      (.tenantRead, 5), (.tenantSuspend, 6), (.tenantResume, 7), (.tenantRetire, 8)] →
    Running s k m keep → tenantRefusal k m (s.tenant (num m 1)) = some st →
    exec c s = .next (answered m keep st [] s)

/-! ### Profiles -/

/-- R20, R21, R23: PROFILE_WRITE replaces the profile, clamped as its table gives, and answers it as stored.
PROFILE_READ answers the fields as stored, the C2 flag of the map set, and changes nothing. A rate above its
range is a free value (log entry 11), so the rates are within it here. The clamps of a multiplier above 255
and a surcharge above 15 (log entry 14), the bits of the map, hours and demotion words that are not read (log
entry 15) and the C2 flag set in PROFILE_WRITE's reply (log entry 40) are the model's reading. -/
def Obligations.ProfileRequestsStoreAndReturn : Prop :=
  (∀ (s : State) (m : Message) (keep : Bool), Running s 9 m keep →
     (16 ≤ num m 1 → exec .profileWrite s = .next (answered m keep .malformed [] s))
     ∧ (num m 1 < 16 → num m 2 ≤ 65535 → num m 3 ≤ 65535 → num m 4 ≤ 65535 → num m 5 ≤ 65535 →
       ∃ r : Profile,
         r.rates = ⟨num m 2, num m 3, num m 4, num m 5⟩
         ∧ r.multiplier ∈ [1, 4, 8, 16, 32] ∧ r.multiplier ≤ max 1 (num m 6)
         ∧ (∀ x ∈ [1, 4, 8, 16, 32], x ≤ num m 6 → x ≤ r.multiplier)
         ∧ r.mapC0 = (word m 7).getLsbD 0 ∧ r.mapC1 = (word m 7).getLsbD 1
         ∧ r.mapC3 = (word m 7).getLsbD 3
         ∧ r.surcharge = min 7 (num m 8) ∧ r.peakHours = (word m 9).extractLsb' 0 24
         ∧ (∀ c, r.demotion.get c =
             if c = .c3 then .c3
             else if ((demotionOf (word m 10)).get c).number ≤ c.number
               then (demotionOf (word m 10)).get c else c)
         ∧ exec .profileWrite s = .next (answered m keep
             (if r.multiplier = num m 6 ∧ r.surcharge = num m 8 ∧ r.demotion = demotionOf (word m 10)
               then .done else .doneClamped)
             (profileWords r) (s.setProfile (num m 1) r))))
  ∧ (∀ (s : State) (m : Message) (keep : Bool), Running s 10 m keep →
       (16 ≤ num m 1 → exec .profileRead s = .next (answered m keep .malformed [] s))
       ∧ (num m 1 < 16 → ∀ r, r = s.profile (num m 1) →
         exec .profileRead s = .next (answered m keep .done
           [out r.rates.c0, out r.rates.c1, out r.rates.c2, out r.rates.c3, out r.multiplier,
             out (4 + r.mapC0.toNat + 2 * r.mapC1.toNat + 8 * r.mapC3.toNat), out r.surcharge,
             out r.peakHours.toNat,
             out (r.demotion.c0.number + 4 * r.demotion.c1.number + 16 * r.demotion.c2.number
               + 64 * r.demotion.c3.number)] s)))
  ∧ (∀ (w : Word) (c : Cls), ((demotionOf w).get c).number = w.toNat / 4 ^ c.number % 4)
  ∧ ∀ r : Profile, profileWords r =
      [out r.rates.c0, out r.rates.c1, out r.rates.c2, out r.rates.c3, out r.multiplier,
        out (4 + r.mapC0.toNat + 2 * r.mapC1.toNat + 8 * r.mapC3.toNat), out r.surcharge,
        out r.peakHours.toNat,
        out (r.demotion.c0.number + 4 * r.demotion.c1.number + 16 * r.demotion.c2.number
          + 64 * r.demotion.c3.number)]

/-! ### Charges and the Time Base -/

/-- R26, R27, R29: the multiplier applies to C2 and to the classes of the map; the surcharge applies in a peak
hour of a valid clock; a frame of at most 9,216 bytes brings at most 34,560 units, and every residue stays at
or below 8,388,607. -/
def Obligations.PriceAndBoundsOfACharge : Prop :=
  (∀ (r : Profile) (clk : Clock) (len : Nat),
     (∀ c, c = .c2 ∨ c = .c0 ∧ r.mapC0 = true ∨ c = .c1 ∧ r.mapC1 = true ∨ c = .c3 ∧ r.mapC3 = true →
       r.multiplierFor c = r.multiplier)
     ∧ (∀ c, ¬(c = .c2 ∨ c = .c0 ∧ r.mapC0 = true ∨ c = .c1 ∧ r.mapC1 = true ∨ c = .c3 ∧ r.mapC3 = true) →
       r.multiplierFor c = 1)
     ∧ (clk.valid = true ∧ r.peakHours.getLsbD (clk.minute / 60) = true →
       r.surchargeAt clk = r.surcharge)
     ∧ (¬(clk.valid = true ∧ r.peakHours.getLsbD (clk.minute / 60) = true) → r.surchargeAt clk = 0)
     ∧ ∀ c, chargeProduct r clk c len
         = len * r.rates.get c * r.multiplierFor c * (8 + r.surchargeAt clk))
  ∧ (∀ (r : Profile) (clk : Clock) (c : Cls) (len residue : Nat), profileInRange r → len ≤ 9216 →
       residue ≤ 8388607 →
       chargeProduct r clk c len ≤ 289905868800 ∧ residue + chargeProduct r clk c len ≤ 289914257407
       ∧ chargeUnits (chargeProduct r clk c len) residue ≤ 34560
       ∧ chargeResidue (chargeProduct r clk c len) residue ≤ 8388607
       ∧ 8388608 * chargeUnits (chargeProduct r clk c len) residue
           + chargeResidue (chargeProduct r clk c len) residue
         = residue + chargeProduct r clk c len)

/-- R28, R31 to R33, R35: a charge that saturates nothing adds the frame to its class's meters, draws its
units from the allowance first, puts the rest in the overage, and touches no other class. In any charge a
meter or the overage that would pass its maximum is held there, which sets the saturation flag; the balance
of R35 holds unless the overage or the accrued meter is so held. That `saturatedNow` pends METER_SATURATED is
stated by `ACompletionReleasesAndCharges`. -/
def Obligations.AChargeBalances : Prop :=
  (∀ (r : Tenant) (product : Nat) (c : Cls) (len : Nat),
    (chargeRecord r product c len).saturatedNow = false →
    ∃ r', r' = (chargeRecord r product c len).record
      ∧ r'.allowance ≤ r.allowance ∧ r.overage ≤ r'.overage
      ∧ (r.allowance - r'.allowance) + (r'.overage - r.overage)
          = ((r.meters.get c).residue + product) / 8388608
      ∧ (0 < r'.allowance → r'.overage = r.overage)
      ∧ r'.meters.get c =
          { bytes := (r.meters.get c).bytes + len, frames := (r.meters.get c).frames + 1
            accrued := (r.meters.get c).accrued + ((r.meters.get c).residue + product) / 8388608
            residue := ((r.meters.get c).residue + product) % 8388608 }
      ∧ (∀ d, d ≠ c → r'.meters.get d = r.meters.get d)
      ∧ r'.saturated = r.saturated
      ∧ (r'.state = if r.state.openForTraffic = true
          then derivedState r'.allowance r'.overage r.ceiling else r.state)
      ∧ r' = { r with
          meters := r'.meters, allowance := r'.allowance, overage := r'.overage, state := r'.state })
  ∧ (∀ (r : Tenant) (product : Nat) (c : Cls) (len units rest : Nat) (x : Charged) (held : Prop),
       x = chargeRecord r product c len →
       units = ((r.meters.get c).residue + product) / 8388608 → rest = units - r.allowance →
       (held ↔ 281474976710655 < (r.meters.get c).bytes + len
         ∨ 1099511627775 < (r.meters.get c).frames + 1
         ∨ 281474976710655 < (r.meters.get c).accrued + units ∨ 1099511627775 < r.overage + rest) →
       (x.saturatedNow = true ↔ held) ∧ (x.record.saturated = true ↔ r.saturated = true ∨ held)
       ∧ x.record.meters.get c =
           { bytes := min 281474976710655 ((r.meters.get c).bytes + len)
             frames := min 1099511627775 ((r.meters.get c).frames + 1)
             accrued := min 281474976710655 ((r.meters.get c).accrued + units)
             residue := ((r.meters.get c).residue + product) % 8388608 }
       ∧ (∀ d, d ≠ c → x.record.meters.get d = r.meters.get d)
       ∧ x.record.allowance = r.allowance - units
       ∧ x.record.overage = min 1099511627775 (r.overage + rest)
       ∧ (x.record.state = if r.state.openForTraffic = true
           then derivedState x.record.allowance x.record.overage r.ceiling else r.state)
       ∧ x.record = { r with
           meters := x.record.meters, allowance := x.record.allowance, overage := x.record.overage
           saturated := x.record.saturated, state := x.record.state }
       ∧ ((r.meters.get c).accrued + units ≤ 281474976710655 → r.overage + rest ≤ 1099511627775 →
           (r.allowance - x.record.allowance) + (x.record.overage - r.overage)
             = (x.record.meters.get c).accrued - (r.meters.get c).accrued))

/-- R37: two charges of one tenant leave the same record, and pend the same notices, in either order. -/
def Obligations.ChargesOfOneTenantCommute : Prop :=
  ∀ (r : Tenant) (x y : Nat) (c d : Cls) (lx ly : Nat), tenantInRange r →
    (chargeRecord (chargeRecord r x c lx).record y d ly).record
      = (chargeRecord (chargeRecord r y d ly).record x c lx).record
    ∧ ((chargeRecord r x c lx).crossedAllowance
          || (chargeRecord (chargeRecord r x c lx).record y d ly).crossedAllowance)
      = ((chargeRecord r y d ly).crossedAllowance
          || (chargeRecord (chargeRecord r y d ly).record x c lx).crossedAllowance)
    ∧ ((chargeRecord r x c lx).crossedCeiling
          || (chargeRecord (chargeRecord r x c lx).record y d ly).crossedCeiling)
      = ((chargeRecord r y d ly).crossedCeiling
          || (chargeRecord (chargeRecord r y d ly).record x c lx).crossedCeiling)
    ∧ ((chargeRecord r x c lx).saturatedNow
          || (chargeRecord (chargeRecord r x c lx).record y d ly).saturatedNow)
      = ((chargeRecord r y d ly).saturatedNow
          || (chargeRecord (chargeRecord r y d ly).record x c lx).saturatedNow)

/-- R40, R41: CLOCK_SET loads the minute, sets the flag and restarts the 60 s count, or is refused. CLOCK_READ
answers the flag, the minute, the hour slot, the µs to the next advance and the timebase, with zeros while
the flag is clear, and changes nothing. -/
def Obligations.ClockRequestsLoadAndRead : Prop :=
  (∀ (s : State) (m : Message) (keep : Bool), Running s 11 m keep →
     (1440 ≤ num m 1 → exec .clockSet s = .next (answered m keep .malformed [] s))
     ∧ (num m 1 < 1440 → exec .clockSet s = .next (answered m keep .done [out (num m 1)]
         { s with clock := { valid := true, minute := num m 1,
                             nextAdvance := some (60000000 + s.timebase) } })))
  ∧ (∀ (s : State) (m : Message) (keep : Bool), Running s 12 m keep →
       (s.clock.valid = false →
         exec .clockRead s = .next (answered m keep .done
           [0#32, 0#32, 0#32, 0#32, out s.timebase, out (s.timebase / 4294967296)] s))
       ∧ (∀ x, s.clock.valid = true → s.clock.nextAdvance = some x →
         exec .clockRead s = .next (answered m keep .done
           [1#32, out s.clock.minute, out (s.clock.minute / 60), out (x - s.timebase), out s.timebase,
             out (s.timebase / 4294967296)] s)))

/-! ### Frame Intake and the Station Table -/

/-- R43, R45, R50 to R59: a frame that the port block discards or that fails a check leaves no trace. An accepted
frame is learned, looked up, and becomes its copies, each with its class, its cells, its hash values and its
outgoing tag, in the order of R59. R44: what is read from a frame stands in its bytes as "Tenant tag" lays them
out, and the two hashes are taken over those bytes in wire order ("The flow hash", "The station bucket"). -/
def Obligations.AFrameBecomesItsCopiesOrNothing : Prop :=
  (∀ (bytes : List Byte) (f : FrameFields) (b : Nat → Nat), f = readFrame bytes →
     (∀ i, b i = (bytes.getD i 0#8).toNat) →
     f.tagType = 256 * b 12 + b 13 ∧ f.tenant = 4 * b 14 + b 15 / 64
     ∧ f.cls.number = b 15 / 16 % 4 ∧ (f.markCapable = true ↔ b 15 / 8 % 2 = 1)
     ∧ (f.mark = true ↔ b 15 / 4 % 2 = 1)
     ∧ f.label.toNat = 16777216 * b 16 + 65536 * b 17 + 256 * b 18 + b 19
     ∧ f.dst.toNat = 1099511627776 * b 0 + 4294967296 * b 1 + 16777216 * b 2 + 65536 * b 3 + 256 * b 4 + b 5
     ∧ f.src.toNat = 1099511627776 * b 6 + 4294967296 * b 7 + 16777216 * b 8 + 65536 * b 9 + 256 * b 10 + b 11
     ∧ (isGroup f.dst = true ↔ b 0 % 2 = 1) ∧ (isGroup f.src = true ↔ b 6 % 2 = 1)
     ∧ (isPauseMessage bytes = true ↔ 14 ≤ bytes.length ∧ b 12 = 0xB7 ∧ b 13 = 0xA5)
     ∧ (20 ≤ bytes.length → ∀ key, key = [BitVec.ofNat 8 (f.tenant / 256), BitVec.ofNat 8 f.tenant] →
         flowHash f.tenant f.dst f.src f.label
           = crc32 (key ++ bytes.take 12 ++ (bytes.drop 16).take 4)
         ∧ stationBucket f.tenant f.dst = (crc32 (key ++ bytes.take 6)).toNat % 4096
         ∧ stationBucket f.tenant f.src = (crc32 (key ++ (bytes.drop 6).take 6)).toNat % 4096)) ∧
  (∀ (s : State) (p : Nat) (h : p < 40) (checkGood : Bool) (bytes : List Byte),
     ¬(FrameHandedOver s p checkGood bytes ∧ FrameAccepted s ⟨p, h⟩ bytes) →
     exec (.frameTaken p checkGood bytes) s = .next s)
  ∧ (∀ (s : State) (p : Fin 40) (checkGood : Bool) (bytes : List Byte) (f : FrameFields),
       f = readFrame bytes → FrameHandedOver s p checkGood bytes → FrameAccepted s p bytes →
       ∃ t copies, exec (.frameTaken p checkGood bytes) s = .next t
         ∧ t = { s with
             stations := t.stations, tenants := t.tenants
             inFlight := if copies = [] then s.inFlight else s.inFlight ++ [copies] }
         ∧ (32 ≤ p.val ∨ isGroup f.src = true → t.stations = s.stations ∧ t.tenants = s.tenants)
         ∧ (∀ q : Fin 32, q.val = p.val → isGroup f.src = false →
             t.stations = (learn f.tenant f.src q s).stations
             ∧ t.tenants = (learn f.tenant f.src q s).tenants)
         ∧ (∀ x ∈ copies, x.tenant = f.tenant ∧ (x.cls, x.throttled) = s.classDecision f.tenant f.cls
             ∧ x.len = bytes.length ∧ x.len ≤ 256 * x.cells ∧ 256 * x.cells < x.len + 256 ∧ x.cells ≤ 36
             ∧ x.ingress = p ∧ x.markCapable = f.markCapable
             ∧ x.pinSlot = (flowHash f.tenant f.dst f.src f.label).toNat % 8192
             ∧ x.pinCheck.toNat = (flowHash f.tenant f.dst f.src f.label).toNat / 65536
             ∧ x.hashHigh = (flowHash f.tenant f.dst f.src f.label).toNat / 8192
             ∧ x.tag = { tenant := f.tenant, cls := x.cls, markCapable := f.markCapable, mark := f.mark,
                         label := f.label }
             ∧ x.data = bytes)
         ∧ (∀ q, isGroup f.dst = false → t.lookup f.tenant f.dst = some (.downlink q) →
             copies.map Copy.dest = if q.val = p.val then [] else [.downlink q])
         ∧ (∀ n, isGroup f.dst = false → t.lookup f.tenant f.dst = some (.path n) →
             copies.map Copy.dest = if p.val < 32 then [.resolve n] else [])
         ∧ (isGroup f.dst = true ∨ t.lookup f.tenant f.dst = none →
             ∃ qs : List (Fin 32),
               copies.map Copy.dest = qs.map Dest.downlink
                 ++ (if p.val < 32 then ((s.tenant f.tenant).defaultPath.map Dest.resolve).toList else [])
               ∧ qs.Pairwise (· < ·)
               ∧ ∀ q : Fin 32, q ∈ qs ↔ (s.tenant f.tenant).portSet.getLsbD q.val = true
                   ∧ (s.port q).link = .up ∧ q.val ≠ p.val))

/-- R47: the queued class and the throttled flag, by the tenant's state. With stored maps as R21 leaves them, no
accepted frame leaves Intake in a higher class than it asked for, and a C3 frame keeps C3. -/
def Obligations.TheClassFollowsTheTenantState : Prop :=
  ∀ (s : State) (t : Nat) (c : Cls),
    ((s.tenant t).state = .active → s.classDecision t c = (c, false))
    ∧ ((s.tenant t).state = .overage →
        s.classDecision t c = ((s.profile (s.tenant t).profile).demotion.get c, false))
    ∧ ((s.tenant t).state = .throttled → c = .c3 → s.classDecision t c = (.c3, true))
    ∧ ((s.tenant t).state = .throttled → c ≠ .c3 → s.classDecision t c = (.c0, true))
    ∧ (ProfilesInRange s → (s.tenant t).state ∈ [.active, .overage, .throttled] →
        (s.classDecision t c).1.number ≤ c.number ∧ (c = .c3 → (s.classDecision t c).1 = .c3))

/-- R63, R65, R68, R69: the entry for a key stands in its bucket, and a new key takes the lowest free way; a lookup
hits a path, or a downlink that is UP; learning acts by the entry's kind and target and the port's flush. -/
def Obligations.LearningAndLookupReadTheBucket : Prop :=
  (∀ (s : State) (t : Nat) (a : Addr),
     (∀ i e, s.findEntry t a = some (i, e) →
       i / 4 = stationBucket t a ∧ i < 16384 ∧ s.station i = some e ∧ e.tenant = t ∧ e.address = a
       ∧ (∀ n, e.target = .path n → s.lookup t a = some (.path n))
       ∧ (∀ p, e.target = .downlink p → (s.port p).link = .up → s.lookup t a = some (.downlink p))
       ∧ (∀ p, e.target = .downlink p → (s.port p).link ≠ .up → s.lookup t a = none))
     ∧ (s.findEntry t a = none → s.lookup t a = none
         ∧ ∀ i e, i / 4 = stationBucket t a → s.station i = some e → ¬(e.tenant = t ∧ e.address = a))
     ∧ (∀ i, s.freeSlot t a = some i → i / 4 = stationBucket t a ∧ i < 16384 ∧ s.station i = none
         ∧ ∀ j, j < i → j / 4 = stationBucket t a → s.station j ≠ none)
     ∧ (s.freeSlot t a = none → ∀ i, i / 4 = stationBucket t a → s.station i ≠ none))
  ∧ (∀ (s : State) (t : Nat) (a : Addr) (q : Fin 32),
       (∀ i e, s.findEntry t a = some (i, e) →
         (e.kind = .static → learn t a q s = s)
         ∧ (e.kind = .learned → e.target = .downlink q →
             learn t a q s = s.setStation i (some { e with lastSeen := s.second }))
         ∧ (e.kind = .learned → e.target ≠ .downlink q → s.flushOutstanding q = false →
             learn t a q s
               = s.setStation i (some { e with target := .downlink q, lastSeen := s.second }))
         ∧ (e.kind = .learned → e.target ≠ .downlink q → s.flushOutstanding q = true →
             learn t a q s = s))
       ∧ (s.findEntry t a = none → s.flushOutstanding q = true → learn t a q s = s)
       ∧ (∀ i, s.findEntry t a = none → s.flushOutstanding q = false → s.freeSlot t a = some i →
           (s.tenant t).stationCount < (s.tenant t).stationLimit →
           learn t a q s = (s.setStation i (some
               { tenant := t, address := a, kind := .learned, target := .downlink q,
                 lastSeen := s.second })).setTenant t
             { s.tenant t with stationCount := (s.tenant t).stationCount + 1 })
       ∧ (s.findEntry t a = none →
           s.freeSlot t a = none ∨ (s.tenant t).stationLimit ≤ (s.tenant t).stationCount →
           learn t a q s = s))

/-- R71, R72: STATION_INSERT writes a STATIC entry in place or in the lowest free way, or is refused with
the first status that applies. An address above 48 bits is a free value (log entry 12). That byte 0 of the
address is its most significant one, which decides the group test and the bucket, is log entry 16, and the
number of the former kind log entry 10. R190: a target word holds its number in bits 7 to 0 and its kind in bits
9 to 8; the bits above are not read (log entry 15). -/
def Obligations.StationInsertWritesAStaticEntry : Prop :=
  (∀ (w : Word) (x : Target), targetOf w = some x ↔
     (∃ p : Fin 32, x = .downlink p ∧ w.toNat / 256 % 4 = 1 ∧ w.toNat % 256 = p.val)
     ∨ ∃ n : Fin 64, x = .path n ∧ w.toNat / 256 % 4 = 2 ∧ w.toNat % 256 = n.val)
  ∧ (∀ (m : Message) (a : Addr), num m 3 ≤ 65535 → a = BitVec.ofNat 48 (num2 m 2) →
     (isGroup a = true ↔ num m 3 / 256 % 2 = 1))
  ∧ (∀ (p : Fin 32) (n : Fin 64), outTarget (.downlink p) = out (256 + p) ∧ outTarget (.path n) = out (512 + n))
  ∧ (outKind .learned = 0#32 ∧ outKind .static = 1#32)
  ∧ ∀ (s : State) (m : Message) (keep : Bool) (a : Addr), Running s 13 m keep → num m 3 ≤ 65535 →
    a = BitVec.ofNat 48 (num2 m 2) →
    (1024 ≤ num m 1 ∨ isGroup a = true ∨ targetOf (word m 4) = none →
      exec .stationInsert s = .next (answered m keep .malformed [] s))
    ∧ ∀ target, num m 1 < 1024 → isGroup a = false → targetOf (word m 4) = some target →
      ((s.tenant (num m 1)).state = .vacant →
        exec .stationInsert s = .next (answered m keep .noTenant [] s))
      ∧ ((s.tenant (num m 1)).state = .draining →
        exec .stationInsert s = .next (answered m keep .badState [] s))
      ∧ ((s.tenant (num m 1)).state.inContract = true →
        (∀ i e, s.findEntry (num m 1) a = some (i, e) →
          exec .stationInsert s = .next (answered m keep .done
            [out i, 1#32, outKind e.kind, outTarget e.target]
            (s.setStation i (some
              { tenant := num m 1, address := a, kind := .static, target := target,
                lastSeen := s.timebase / 1000000 }))))
        ∧ (s.findEntry (num m 1) a = none → s.freeSlot (num m 1) a = none →
          exec .stationInsert s = .next (answered m keep .bucketFull [] s))
        ∧ (∀ i, s.findEntry (num m 1) a = none → s.freeSlot (num m 1) a = some i →
          ((s.tenant (num m 1)).stationLimit ≤ (s.tenant (num m 1)).stationCount →
            exec .stationInsert s = .next (answered m keep .limit [] s))
          ∧ ((s.tenant (num m 1)).stationCount < (s.tenant (num m 1)).stationLimit →
            exec .stationInsert s = .next (answered m keep .done [out i, 0#32, 0#32, 0#32]
              ((s.setStation i (some
                  { tenant := num m 1, address := a, kind := .static, target := target,
                    lastSeen := s.timebase / 1000000 })).setTenant (num m 1)
                { s.tenant (num m 1) with
                  stationCount := (s.tenant (num m 1)).stationCount + 1 })))))

/-- R73, R74, R77: STATION_FIND answers the entry and changes nothing; STATION_REMOVE frees its slot and lowers its
tenant's count; STATION_AGING loads both settings, clamped as its table gives. An address above 48 bits is a
free value (log entry 12); the byte order of an address is log entry 16, the number of a kind log entry 10. -/
def Obligations.StationRequestsAnswerAndLoad : Prop :=
  (∀ (s : State) (m : Message) (keep : Bool) (a : Addr), num m 3 ≤ 65535 →
     a = BitVec.ofNat 48 (num2 m 2) →
     (Running s 14 m keep →
       (1024 ≤ num m 1 → exec .stationFind s = .next (answered m keep .malformed [] s))
       ∧ (num m 1 < 1024 → s.findEntry (num m 1) a = none →
         exec .stationFind s = .next (answered m keep .notFound [] s))
       ∧ (∀ i e, num m 1 < 1024 → s.findEntry (num m 1) a = some (i, e) →
         exec .stationFind s = .next (answered m keep .done
           [out i, outKind e.kind, outTarget e.target, out e.lastSeen,
             outFlag (s.lookup (num m 1) a).isSome] s)))
     ∧ (Running s 15 m keep →
       (1024 ≤ num m 1 → exec .stationRemove s = .next (answered m keep .malformed [] s))
       ∧ (num m 1 < 1024 → s.findEntry (num m 1) a = none →
         exec .stationRemove s = .next (answered m keep .notFound [] s))
       ∧ (∀ i e, num m 1 < 1024 → s.findEntry (num m 1) a = some (i, e) →
         exec .stationRemove s = .next (answered m keep .done
           [out i, outKind e.kind, outTarget e.target, out e.lastSeen]
           ((s.setStation i none).setTenant (num m 1) { s.tenant (num m 1) with
             stationCount := (s.tenant (num m 1)).stationCount - 1 })))))
  ∧ (∀ (s : State) (m : Message) (keep : Bool), Running s 16 m keep → num m 1 ≤ 65535 → num m 2 ≤ 255 →
       ∃ g x,
         (g = if num m 1 < 10 then 300 else if 3600 < num m 1 then 3600 else num m 1)
         ∧ (x = if num m 2 = 0 then 1 else if 60 < num m 2 then 60 else num m 2)
         ∧ exec .stationAging s = .next (answered m keep
             (if g = num m 1 ∧ x = num m 2 then .done else .doneClamped) [out g, out x]
             { s with agingInterval := g, pinExpiry := x }))

/-! ### Path sets, resolution and pins -/

/-- R94, R95, R97, R117: PATHSET_WRITE replaces the record, returns the cursor to 0 and posts the rebalance, or is
refused; gaps above 65,535 are free values (log entry 11). PATHSET_READ and PIN_READ answer the record with its
usable flags and change nothing. The eight fixed places of a list are the model's choice (log entry 9), as are
the words of an absent uplink (log entry 19) and of the modes (log entry 10). R190: a member word holds its
number in bits 7 to 0 and its kind in bits 9 to 8, an optional field its presence in bit 31 and its value
below; the bits of a member above its kind, and of an absent field below bit 31, are not read (log entry
15). -/
def Obligations.PathsetRequestsWriteAndRead : Prop :=
  (∀ (w : Word) (x : Member), memberOf w = some x ↔
     (∃ u : Fin 8, x = .uplink u ∧ w.toNat / 256 % 4 = 1 ∧ w.toNat % 256 = u.val)
     ∨ ∃ n : Fin 64, x = .redirect n ∧ w.toNat / 256 % 4 = 2 ∧ w.toNat % 256 = n.val)
  ∧ (∀ (m : Message) (i n : Nat) (l : List Member),
     membersOf m i n = some l ↔ (List.range n).map (fun j => memberOf (word m (i + j))) = l.map some)
  ∧ (∀ (m : Message) (i : Nat),
     (optionalSet m i = some none ↔ num m i < 2147483648)
     ∧ ∀ n : Fin 64, optionalSet m i = some (some n) ↔ num m i = 2147483648 + n.val)
  ∧ (∀ (u : Fin 8) (n : Fin 64) (pl : Place),
     outMember (.uplink u) = out (256 + u) ∧ outMember (.redirect n) = out (512 + n)
     ∧ (pl.index < 256 → (outPlace pl).toNat = pl.index + 256 * pl.set.val)
     ∧ outOption none = 0#32 ∧ (outOption (some n.val)).toNat = 2147483648 + n.val) ∧
  (∀ (s : State) (m : Message) (keep : Bool), Running s 17 m keep →
     (64 ≤ num m 1 ∨ 8 < num m 3 ∨ 2 ≤ num m 2 ∨ membersOf m 4 (num m 3) = none ∨ optionalSet m 12 = none →
       exec .pathsetWrite s = .next (answered m keep .malformed [] s))
     ∧ (∀ mode members fallback, num m 1 < 64 → num m 3 ≤ 8 →
       (num m 2 = 0 ∧ mode = .hashed ∨ num m 2 = 1 ∧ mode = .rotating) →
       membersOf m 4 (num m 3) = some members → optionalSet m 12 = some fallback →
       num m 13 ≤ 65535 → num m 14 ≤ 65535 → num m 15 ≤ 65535 → num m 16 ≤ 65535 →
       exec .pathsetWrite s = .next (answered m keep .done [out (num m 1)]
         { s.setPathSet (num m 1)
             { mode := mode, members := members, fallback := fallback, cursor := 0, flowlet := num m 13,
               restore := num m 14, setchange := num m 15, lossless := num m 16 } with
           jobs := { s.jobs with sets := setInsert s.jobs.sets (num m 1) } })))
  ∧ (∀ (s : State) (m : Message) (keep : Bool),
       (Running s 18 m keep →
         (64 ≤ num m 1 → exec .pathsetRead s = .next (answered m keep .malformed [] s))
         ∧ (∀ r, num m 1 < 64 → r = s.pathSet (num m 1) →
           exec .pathsetRead s = .next (answered m keep .done
             ([out r.mode.number, out r.members.length]
               ++ (List.range 8).map (fun i => (r.members[i]?.map outMember).getD 0#32)
               ++ [outOption (r.fallback.map Fin.val), out r.cursor, out r.flowlet, out r.restore,
                 out r.setchange, out r.lossless]
               ++ (List.range 8).map (fun i =>
                 (r.members[i]?.map fun x => outFlag (s.memberUsable x)).getD 0#32)) s)))
       ∧ (Running s 19 m keep →
         (8192 ≤ num m 1 → exec .pinRead s = .next (answered m keep .malformed [] s))
         ∧ (∀ r, num m 1 < 8192 → r = s.pin (num m 1) →
           exec .pinRead s = .next (answered m keep .done
             [outFlag r.valid, out r.check.toNat, out r.origin.val, outPlace r.current, outPlace r.home,
               out r.lastUse, out (r.lastUse / 4294967296), out (s.timebase - r.lastUse),
               out ((s.timebase - r.lastUse) / 4294967296),
               outOption ((s.uplinkOf r.current).map Fin.val), outFlag (s.placeUsable r.current),
               outOption ((s.uplinkOf r.home).map Fin.val), outFlag (s.placeUsable r.home)] s))))

/-- R82, R84 to R88: a walk that reaches an uplink ends at a usable member of the set it names, and leaves
of every set everything but the cursor of a ROTATING one. Each visit chooses the first usable member from the
pick value or the cursor, moves the cursor of a ROTATING set one past it, and records the first choice in each
set (for R91); with nothing usable it goes on to the fallback, if there is one. -/
def Obligations.AWalkEndsAtAUsableUplink : Prop :=
  (∀ (s : State) (c : Copy) (n : Fin 64),
     (∀ pl u, (s.freshResolution c n).outcome = .reached pl u →
       (s.pathSet pl.set).members[pl.index]? = some (.uplink u)
       ∧ (s.port (32 + u.val)).link = .up ∧ (s.port (32 + u.val)).stormHold = false)
     ∧ (∀ j : Nat, ∃ cur, tableGet emptyPathSet (s.freshResolution c n).sets j
         = { s.pathSet j with cursor := cur }
       ∧ ((s.pathSet j).mode = .hashed → cur = (s.pathSet j).cursor)
       ∧ (cur = (s.pathSet j).cursor ∨ cur < (s.pathSet j).members.length))
     ∧ s.freshResolution c n = freshWalk s.memberUsable c.hashHigh 5 n s.pathSets []
     ∧ (∀ u : Fin 8, s.memberUsable (.uplink u) = true ↔
         (s.port (32 + u.val)).link = .up ∧ (s.port (32 + u.val)).stormHold = false)
     ∧ ∀ n', s.memberUsable (.redirect n') = true)
  ∧ (∀ (usable : Member → Bool) (h visits : Nat) (n : Fin 64) (sets : Table PathSet)
       (picks : Table (Option Nat)) (r : PathSet), r = tableGet emptyPathSet sets n →
       (NothingUsable usable r →
         (r.fallback = none → freshWalk usable h (visits + 1) n sets picks
           = { outcome := .noPath, sets := sets, picks := picks })
         ∧ (∀ n', r.fallback = some n' → freshWalk usable h (visits + 1) n sets picks
           = freshWalk usable h visits n' sets picks))
       ∧ (∀ i m, Chosen usable r h i m → ∃ picks' : Table (Option Nat),
           (∀ j, tableGet none picks' j =
             if j = n.val then (tableGet none picks n).or (some i) else tableGet none picks j)
           ∧ (∀ u, m = .uplink u → freshWalk usable h (visits + 1) n sets picks
             = { outcome := .reached ⟨n, i⟩ u, sets := setsAfterChoice sets n i, picks := picks' })
           ∧ (∀ n', m = .redirect n' → freshWalk usable h (visits + 1) n sets picks
             = freshWalk usable h visits n' (setsAfterChoice sets n i) picks')))

/-- R85, R89, R91: a fresh walk enters at most five sets, whatever led it from each to the next, a redirect or
a fallback: five visits that go on are a chain fault, and at each of the five visits an uplink chosen is
reached, and nothing usable with no fallback is no path. A home walk takes the member of the pick value, or
of the fresh walk's first choice or the cursor; it ends without a result in an EMPTY set or at a sixth
visit. -/
def Obligations.AWalkEntersAtMostFiveSets : Prop :=
  (∀ (s : State) (c : Copy) (f : Nat → Fin 64) (g : Nat → Table PathSet) (w : Walk),
     g 0 = s.pathSets → w = s.freshResolution c (f 0) →
     ((∀ i, i < 5 → VisitGoesOn s.memberUsable c.hashHigh (f i) (g i) (f (i + 1)) (g (i + 1))) →
       w.outcome = .chainFault ∧ w.sets = g 5)
     ∧ ∀ j r, j < 5 → r = tableGet emptyPathSet (g j) (f j) →
       (∀ i, i < j → VisitGoesOn s.memberUsable c.hashHigh (f i) (g i) (f (i + 1)) (g (i + 1))) →
       (∀ i u, Chosen s.memberUsable r c.hashHigh i (.uplink u) →
         w.outcome = .reached ⟨f j, i⟩ u ∧ w.sets = setsAfterChoice (g j) (f j) i)
       ∧ (NothingUsable s.memberUsable r → r.fallback = none → w.outcome = .noPath ∧ w.sets = g j))
  ∧ (∀ (h visits : Nat) (sets : Table PathSet) (picks : Table (Option Nat)) (n : Fin 64) (r : PathSet)
       (i : Nat), r = tableGet emptyPathSet sets n →
       homeWalk h sets picks 0 n = none
       ∧ (r.members = [] → homeWalk h sets picks (visits + 1) n = none)
       ∧ ((r.mode = .hashed → i = h % r.members.length) →
         (r.mode = .rotating → i = (tableGet none picks n).getD r.cursor) →
         (∀ u, r.members[i]? = some (.uplink u) →
           homeWalk h sets picks (visits + 1) n = some ⟨n, i⟩)
         ∧ (∀ n', r.members[i]? = some (.redirect n') →
           homeWalk h sets picks (visits + 1) n = homeWalk h sets picks visits n')))
  ∧ ∀ (s : State) (c : Copy) (f : Nat → Fin 64),
    ((∀ i, i < 5 → (s.pathSet (f i)).members = [.redirect (f (i + 1))]) →
      (s.freshResolution c (f 0)).outcome = .chainFault)
    ∧ (∀ u, (∀ i, i < 4 → (s.pathSet (f i)).members = [.redirect (f (i + 1))]) →
      (s.pathSet (f 4)).members = [.uplink u] → s.memberUsable (.uplink u) = true →
      (s.freshResolution c (f 0)).outcome = .reached ⟨f 4, 0⟩ u)
    ∧ ((s.pathSet (f 0)).members = [] → (s.pathSet (f 0)).fallback = none →
      (s.freshResolution c (f 0)).outcome = .noPath)

/-- R101 to R103: a copy whose slot is free or held idle makes a new pin where its walk ends; a copy whose
slot is held busy leaves the pin alone. Both are handed on at the uplink reached, and nothing else changes.
R59, R84: a copy handed over stays the first of its frame, a copy dropped leaves its siblings as they are, and
a frame with no copy left is gone (the list of copies in flight is the model's own, log entry 5). -/
def Obligations.ACopyWithNoPinOfItsOwnWalks : Prop :=
  (∀ (l : List (List Copy)) (k : Nat) (c : Copy) (more : List Copy) (d : Dest), l[k]? = some (c :: more) →
     redirectCopy l k d = l.set k ({ c with dest := d } :: more)
     ∧ dropCopy l k = if more = [] then l.eraseIdx k else l.set k more)
  ∧ ∀ (s : State) (k : Nat) (c : Copy) (n : Fin 64) (pl : Place) (u : Fin 8), s.nextCopy k = some c →
    c.dest = .resolve n → (s.freshResolution c n).outcome = .reached pl u →
    ¬((s.pin c.pinSlot).valid = true ∧ (s.pin c.pinSlot).check = c.pinCheck
      ∧ (s.pin c.pinSlot).origin = n) →
    ∃ t, exec (.resolutionEvent k) s = .next t
      ∧ t = { s with
          pathSets := (s.freshResolution c n).sets, pins := t.pins
          inFlight := redirectCopy s.inFlight k (.uplink u) }
      ∧ t.nextCopy k = some { c with dest := .uplink u }
      ∧ (∀ j, j ≠ k → t.inFlight[j]? = s.inFlight[j]?)
      ∧ (((s.pin c.pinSlot).valid = false
            ∨ (s.pathSet (s.pin c.pinSlot).current.set).flowlet
                ≤ s.timebase - (s.pin c.pinSlot).lastUse) →
          t.pin c.pinSlot
            = { valid := true, check := c.pinCheck, origin := n, current := pl,
                home := (homeWalk c.hashHigh (s.freshResolution c n).sets
                  (s.freshResolution c n).picks 5 n).getD pl,
                lastUse := s.timebase }
          ∧ ∀ j, j ≠ c.pinSlot → t.pin j = s.pin j)
      ∧ (((s.pin c.pinSlot).valid = true
            ∧ s.timebase - (s.pin c.pinSlot).lastUse
                < (s.pathSet (s.pin c.pinSlot).current.set).flowlet) →
          t.pins = s.pins)

/-- R84, R89, R102, R103, R108: a copy whose walk ends in no path is dropped silently, and in chain fault
with CHAIN_FAULT pended for the origin set; a matched pin keeps its places and takes its last-use. -/
def Obligations.AWalkThatFailsDropsTheCopy : Prop :=
  ∀ (s : State) (k : Nat) (c : Copy) (n : Fin 64) (d : State), s.nextCopy k = some c →
    c.dest = .resolve n →
    (pinMatches (s.pin c.pinSlot) c n = true → s.placeUsable (s.pin c.pinSlot).current = false) →
    d = { (if pinMatches (s.pin c.pinSlot) c n = true
            then s.setPin c.pinSlot { s.pin c.pinSlot with lastUse := s.timebase } else s) with
          pathSets := (s.freshResolution c n).sets, inFlight := dropCopy s.inFlight k } →
    ((s.freshResolution c n).outcome = .noPath → exec (.resolutionEvent k) s = .next d)
    ∧ ((s.freshResolution c n).outcome = .chainFault →
        exec (.resolutionEvent k) s = .next (pend .chainFault n d))

/-- R106 to R111: a matched pin makes the fault move when its place is not usable, else the restore move,
else the congestion move, else it stays. Its last-use becomes now, and the copy goes to its new place. A
candidate is a usable uplink of the set, other than the pin's own, at or below half the threshold. R82, R104:
a place is usable when its set as it stands has a usable uplink at its index. -/
def Obligations.AMatchedPinMovesInOrder : Prop :=
  (∀ (s : State) (pl : Place),
     (s.placeUsable pl = true ↔
       ∃ u, (s.pathSet pl.set).members[pl.index]? = some (.uplink u) ∧ (s.port (32 + u.val)).link = .up
         ∧ (s.port (32 + u.val)).stormHold = false)
     ∧ ∀ u, s.uplinkOf pl = some u ↔ (s.pathSet pl.set).members[pl.index]? = some (.uplink u)) ∧
  (∀ (s : State) (n : Fin 64) (u v : Fin 8) (c : Cls) (i : Nat),
     (i, v) ∈ s.candidates n u c ↔
       (s.pathSet n).members[i]? = some (.uplink v) ∧ (s.port (32 + v.val)).link = .up
       ∧ (s.port (32 + v.val)).stormHold = false ∧ v ≠ u
       ∧ 2 * s.occupancy (32 + v.val) c ≤ (s.policy .uplink c).resteer)
  ∧ ∀ (s : State) (k : Nat) (c : Copy) (n : Fin 64) (r : Pin), s.nextCopy k = some c →
    c.dest = .resolve n → r = s.pin c.pinSlot → r.valid = true → r.check = c.pinCheck → r.origin = n →
    (∀ pl u, s.placeUsable r.current = false → (s.freshResolution c n).outcome = .reached pl u →
      exec (.resolutionEvent k) s = .next
        { (s.setPin c.pinSlot { r with current := pl, lastUse := s.timebase }).handOver k u with
          pathSets := (s.freshResolution c n).sets })
    ∧ (∀ v, s.placeUsable r.current = true → RestoreHolds s r c.cls → s.uplinkOf r.home = some v →
      exec (.resolutionEvent k) s = .next
        ((s.setPin c.pinSlot { r with current := r.home, lastUse := s.timebase }).handOver k v))
    ∧ (∀ u i w, s.placeUsable r.current = true → ¬RestoreHolds s r c.cls →
      s.uplinkOf r.current = some u → CongestionHolds s r u c.cls →
      (i, w) ∈ s.candidates r.current.set u c.cls →
      (∀ j x, (j, x) ∈ s.candidates r.current.set u c.cls →
        s.occupancy (32 + w.val) c.cls < s.occupancy (32 + x.val) c.cls
        ∨ s.occupancy (32 + w.val) c.cls = s.occupancy (32 + x.val) c.cls ∧ i ≤ j) →
      exec (.resolutionEvent k) s = .next
        ((s.setPin c.pinSlot { r with
            current := ⟨r.current.set, i⟩, home := ⟨r.current.set, i⟩,
            lastUse := s.timebase }).handOver k w))
    ∧ (∀ u, s.placeUsable r.current = true → ¬RestoreHolds s r c.cls →
      s.uplinkOf r.current = some u → ¬CongestionHolds s r u c.cls →
      exec (.resolutionEvent k) s = .next
        ((s.setPin c.pinSlot { r with lastUse := s.timebase }).handOver k u))

/-- R113: a pin whose place is usable moves only when its flow's idle time is at least the highest gap of
the move: a restore to its home, or a congestion move within its set. -/
def Obligations.APinMovesOnlyAfterItsGap : Prop :=
  ∀ (s t : State) (k : Nat) (c : Copy) (n : Fin 64) (r : Pin), s.nextCopy k = some c →
    c.dest = .resolve n → r = s.pin c.pinSlot → pinMatches r c n = true →
    s.placeUsable r.current = true → exec (.resolutionEvent k) s = .next t →
    (t.pin c.pinSlot).current ≠ r.current →
    ((t.pin c.pinSlot).current = r.home ∧ (t.pin c.pinSlot).home = r.home
      ∧ requiredRestoreGap (s.pathSet r.home.set) c.cls (decide (r.home.set ≠ r.current.set))
          ≤ s.timebase - r.lastUse)
    ∨ ((t.pin c.pinSlot).current.set = r.current.set
      ∧ (t.pin c.pinSlot).home = (t.pin c.pinSlot).current
      ∧ requiredCongestionGap (s.pathSet r.current.set) c.cls ≤ s.timebase - r.lastUse)

/-! ### The shared buffer and the egress queues -/

/-- R119, R124, R125, R133, R135, R143: a copy that fails a test is dropped silently. A copy that passes joins the
tail of its queue; the free count, its tenant's count and its ingress port's lossless count move with it, and
the pause-on test and the storm timer follow: a running timer is not touched. Nothing else changes. -/
def Obligations.AdmissionQueuesOrDropsTheCopy : Prop :=
  (∀ (s : State) (p : Nat) (c : Cls), s.occupancy p c = ((s.queue p c).map QFrame.cells).sum
     ∧ (kindOfPort p = .downlink ↔ p < 32)) ∧
  (∀ (s : State) (k : Nat) (c : Copy) (p : Fin 40), s.nextCopy k = some c →
     c.dest.egressPort = some p → ¬CopyPasses s c p →
     exec (.admission k) s = .next { s with inFlight := dropCopy s.inFlight k })
  ∧ (∀ (s : State) (k : Nat) (c : Copy) (p : Fin 40), s.nextCopy k = some c →
       c.dest.egressPort = some p → CopyPasses s c p →
       ∃ t, exec (.admission k) s = .next t
         ∧ t = { s with
             ports := t.ports, tenants := t.tenants, freeCount := s.freeCount - c.cells,
             inFlight := dropCopy s.inFlight k }
         ∧ t.freeCount + c.cells = s.freeCount
         ∧ t.queue p c.cls = s.queue p c.cls ++
             [{ tenant := c.tenant, cls := c.cls, len := c.len, cells := c.cells, ingress := c.ingress,
                markCapable := c.markCapable, tag := c.tag,
                uncharged := decide ((s.tenant c.tenant).state = .draining), data := c.data }]
         ∧ (∀ (q : Nat) d, q ≠ p.val ∨ d ≠ c.cls → t.queue q d = s.queue q d)
         ∧ t.tenant c.tenant
             = { s.tenant c.tenant with inBuffer := (s.tenant c.tenant).inBuffer + 1 }
         ∧ (∀ u, u ≠ c.tenant → t.tenant u = s.tenant u)
         ∧ (∀ q : Nat, (t.port q).losslessCount = (s.port q).losslessCount
             + if c.cls = .c2 ∧ q = c.ingress.val then c.cells else 0)
         ∧ (∀ q : Nat, SamePortState (s.port q) (t.port q)
             ∧ (t.port q).transmitter = (s.port q).transmitter)
         ∧ (∀ q : Nat, q ≠ p.val → q ≠ c.ingress.val ∨ c.cls ≠ .c2 → t.port q = s.port q)
         ∧ (c.cls = .c2 → (s.port c.ingress).ingress = .flowing → (t.port c.ingress).link = .up →
             (s.pauseOf c.ingress).pauseOn ≤ (t.port c.ingress).losslessCount →
             (t.port c.ingress).ingress = .pausing
             ∧ (t.port c.ingress).slot = some (.pause (s.pauseOf c.ingress).quantum)
             ∧ (t.port c.ingress).renewal = some (s.timebase
                 + if (s.pauseOf c.ingress).quantum = 1 then 1 else (s.pauseOf c.ingress).quantum / 2))
         ∧ (∀ q : Nat, q ≠ c.ingress.val ∨ c.cls ≠ .c2 ∨ (s.port q).ingress = .pausing
               ∨ (s.port q).link ≠ .up ∨ (t.port q).losslessCount < (s.pauseOf q).pauseOn →
             (t.port q).ingress = (s.port q).ingress ∧ (t.port q).slot = (s.port q).slot
             ∧ (t.port q).renewal = (s.port q).renewal)
         ∧ (c.cls = .c2 → (s.port p).c2State = .paused → (s.port p).storm = none →
             (t.port p).storm = some
               ⟨s.timebase, s.timebase + 10000 * (s.linkSettings.stormBudget + 1)⟩)
         ∧ (portTimed (s.port p) →
             c.cls ≠ .c2 ∨ (s.port p).c2State ≠ .paused ∨ (s.port p).storm ≠ none →
             (t.port p).storm = (s.port p).storm)
         ∧ (∀ q : Nat, q ≠ p.val → (t.port q).storm = (s.port q).storm))

/-- R127 to R129: a start takes the oldest frame of C3, else of a READY C2, else of the first class of the
rotation that holds one, marks it when its queue is at or above the mark threshold, and moves the
rotation only for C1 and C0. What is on the wire is the frame as received with its outgoing tag in bytes 12
to 19, in the layout of "Tenant tag" (log entry 33). -/
def Obligations.AStartTakesTheScheduledFrame : Prop :=
  (∀ (r : Port) (c : Cls) (f : QFrame) (rest : List QFrame), r.transmitter = .frame c →
     r.queues.get c = f :: rest → 20 ≤ f.data.length → f.tag.tenant < 1024 →
     ∃ w, r.onWire = some w ∧ w.length = f.data.length
       ∧ w.take 12 = f.data.take 12 ∧ w.drop 20 = f.data.drop 20
       ∧ frameField w 12 2 = 0xB7A4
       ∧ frameField w 14 2 = 64 * f.tag.tenant + 16 * f.tag.cls.number + 8 * f.tag.markCapable.toNat
           + 4 * f.tag.mark.toNat
       ∧ frameField w 16 4 = f.tag.label.toNat)
  ∧ ∀ (s : State) (p : Nat) (r : Port) (c : Cls) (f : QFrame) (rest : List QFrame) (i : Fin 4), p < 40 →
    r = s.port p → r.transmitter = .idle → r.link = .up → r.slot = none →
    r.queues.get c = f :: rest →
    (c = .c3 ∧ i = r.rotation
      ∨ c = .c2 ∧ i = r.rotation ∧ r.queues.c3 = [] ∧ r.c2State = .ready
      ∨ r.queues.c3 = [] ∧ (r.queues.c2 = [] ∨ r.c2State ≠ .ready)
        ∧ ∃ d : Fin 4, c = rotationClass (r.rotation + d) ∧ i = r.rotation + d + 1
          ∧ ∀ e : Fin 4, e < d → r.queues.get (rotationClass (r.rotation + e)) = []) →
    exec (.transmissionStart p) s = .next (s.setPort p { r with
      queues := r.queues.set c
        ((if f.markCapable = true ∧ (s.policy (kindOfPort p) c).mark ≤ s.occupancy p c
          then { f with tag := { f.tag with mark := true } } else f) :: rest)
      transmitter := .frame c
      rotation := i })

/-- R4, R24, R25, R130, R133: a completion removes the frame, returns its cells, lowers its tenant's count
and a C2 frame's ingress count, with the pause-off test of R137, and charges it when it is not flagged and
its tenant is in contract; otherwise the tenant becomes VACANT when R18 requires. -/
def Obligations.ACompletionReleasesAndCharges : Prop :=
  ∀ (s : State) (p : Nat) (c : Cls) (f : QFrame) (rest : List QFrame) (r : Tenant), p < 40 →
    (s.port p).transmitter = .frame c → s.queue p c = f :: rest → r = s.tenant f.tenant →
    ∃ t, exec (.transmissionCompletion p) s = .next t ∧ OnlyBufferChanged s t
      ∧ t.queue p c = rest ∧ (t.port p).transmitter = .idle
      ∧ (∀ q d, q ≠ p ∨ d ≠ c → t.queue q d = s.queue q d)
      ∧ (∀ q, SamePortState (s.port q) (t.port q))
      ∧ (∀ q, q ≠ p → q ≠ f.ingress.val → t.port q = s.port q)
      ∧ t.freeCount = s.freeCount + f.cells
      ∧ (∀ q : Nat, (t.port q).losslessCount = (s.port q).losslessCount
          - if f.cls = .c2 ∧ q = f.ingress.val then f.cells else 0)
      ∧ (∀ q : Nat, IngressFollows s t (if f.cls = .c2 then [f] else []) q)
      ∧ (∀ q, q ≠ p → (t.port q).storm = (s.port q).storm)
      ∧ (portTimed (s.port p) →
          (t.port p).storm = if t.queue p .c2 = [] then none else (s.port p).storm)
      ∧ (∀ u, u ≠ f.tenant → t.tenant u = s.tenant u)
      ∧ (f.uncharged = false → r.state.inContract = true →
          ∃ x, x = chargeRecord { r with inBuffer := r.inBuffer - 1 }
              (chargeProduct (s.profile r.profile) s.clock f.cls f.len) f.cls f.len
            ∧ t.tenant f.tenant = x.record
            ∧ (∀ u, u ∈ t.noticeSet .tenantOverage ↔ u ∈ s.noticeSet .tenantOverage
                ∨ u = f.tenant ∧ 0 < r.allowance ∧ x.record.allowance = 0)
            ∧ (∀ u, u ∈ t.noticeSet .tenantThrottled ↔ u ∈ s.noticeSet .tenantThrottled
                ∨ u = f.tenant ∧ 0 < r.ceiling ∧ r.overage < r.ceiling ∧ r.ceiling ≤ x.record.overage)
            ∧ (∀ u, u ∈ t.noticeSet .meterSaturated ↔ u ∈ s.noticeSet .meterSaturated
                ∨ u = f.tenant ∧ x.saturatedNow = true)
            ∧ ∀ k, k ≠ .tenantOverage → k ≠ .tenantThrottled → k ≠ .meterSaturated →
                t.noticeSet k = s.noticeSet k)
      ∧ (f.uncharged = true ∨ r.state.inContract = false →
          (¬(r.state = .draining ∧ r.inBuffer ≤ 1 ∧ s.purgeOutstanding f.tenant = false) →
            t.tenant f.tenant = { r with inBuffer := r.inBuffer - 1 } ∧ t.notices = s.notices)
          ∧ (r.state = .draining ∧ r.inBuffer ≤ 1 ∧ s.purgeOutstanding f.tenant = false →
            t.tenant f.tenant = vacantTenant
            ∧ (∀ u, u ∈ t.noticeSet .purgeDone ↔ u ∈ s.noticeSet .purgeDone ∨ u = f.tenant)
            ∧ ∀ k, k ≠ .purgeDone → t.noticeSet k = s.noticeSet k))

/-- R18, R130, R137, R139, R143, R155: leaving UP aborts the frame in transmission uncharged, clears the
ingress side and leaves the other frames queued, with their queues' states and timers. -/
def Obligations.LeavingUpAbortsTheFrame : Prop :=
  ∀ (s : State) (p : Nat) (l : LinkState), ∃ t, t = leaveUp p l s ∧ OnlyBufferChanged s t
    ∧ (t.port p).link = l ∧ (t.port p).ingress = .flowing ∧ (t.port p).renewal = none
    ∧ (t.port p).slot = none ∧ (t.port p).transmitter = .idle
    ∧ (t.port p).lane = (s.port p).lane ∧ (t.port p).flapHistory = (s.port p).flapHistory
    ∧ (t.port p).debounceEnd = (s.port p).debounceEnd
    ∧ (t.port p).holdDownEnd = (s.port p).holdDownEnd
    ∧ (t.port p).recoveryEnd = (s.port p).recoveryEnd ∧ (t.port p).stormHold = (s.port p).stormHold
    ∧ (t.port p).c2State = (s.port p).c2State ∧ (t.port p).pauseEnd = (s.port p).pauseEnd
    ∧ (t.port p).rotation = (s.port p).rotation
    ∧ (portTimed (s.port p) →
        (t.port p).storm = if t.queue p .c2 = [] then none else (s.port p).storm)
    ∧ (∀ q, q ≠ p → SamePortState (s.port q) (t.port q) ∧ (t.port q).storm = (s.port q).storm
        ∧ (t.port q).transmitter = (s.port q).transmitter ∧ (t.port q).queues = (s.port q).queues)
    ∧ (∀ k, k ≠ .purgeDone → t.noticeSet k = s.noticeSet k)
    ∧ (∀ c f rest, (s.port p).transmitter = .frame c → s.queue p c = f :: rest →
        t.queue p c = rest ∧ (∀ d, d ≠ c → t.queue p d = s.queue p d)
        ∧ t.freeCount = s.freeCount + f.cells
        ∧ LeftUncharged s t (fun u => if u = f.tenant then 1 else 0)
        ∧ (∀ q : Nat, (t.port q).losslessCount = (s.port q).losslessCount
            - if f.cls = .c2 ∧ q = f.ingress.val then f.cells else 0)
        ∧ (∀ q, q ≠ p → IngressFollows s t (if f.cls = .c2 then [f] else []) q))
    ∧ ((∀ c, (s.port p).transmitter = .frame c → s.queue p c = []) →
        (t.port p).queues = (s.port p).queues ∧ t.freeCount = s.freeCount ∧ t.tenants = s.tenants
        ∧ t.notices = s.notices ∧ (t.port p).losslessCount = (s.port p).losslessCount
        ∧ ∀ q, q ≠ p → t.port q = s.port q)

/-- R18, R131, R137, R157: the down effects empty the port's queues uncharged, make C2 READY, clear the ingress
side, pend LINK_DOWN, and post the flush of a downlink. A tenant differs in its in-buffer count alone, or
becomes VACANT exactly when R18 requires; a port whose count falls to pause-off places its resume. -/
def Obligations.DownEffectsEmptyThePort : Prop :=
  ∀ (s : State) (p : Nat), (∀ c, ∀ f ∈ s.queue p c, f.cls = c) →
    ∃ t, t = downEffects p s
      ∧ t = { s with
          ports := t.ports, tenants := t.tenants, freeCount := t.freeCount, notices := t.notices,
          interruptsSent := t.interruptsSent
          jobs := if p < 32 then { s.jobs with ports := setInsert s.jobs.ports p } else s.jobs }
      ∧ (∀ c, t.queue p c = [])
      ∧ (t.port p).c2State = .ready ∧ (t.port p).pauseEnd = none ∧ (t.port p).storm = none
      ∧ (t.port p).ingress = .flowing ∧ (t.port p).renewal = none ∧ (t.port p).slot = none
      ∧ (t.port p).link = (s.port p).link ∧ (t.port p).lane = (s.port p).lane
      ∧ (t.port p).debounceEnd = (s.port p).debounceEnd
      ∧ (t.port p).holdDownEnd = (s.port p).holdDownEnd
      ∧ (t.port p).flapHistory = (s.port p).flapHistory
      ∧ (t.port p).recoveryEnd = (s.port p).recoveryEnd ∧ (t.port p).stormHold = (s.port p).stormHold
      ∧ (t.port p).rotation = (s.port p).rotation
      ∧ ((∃ c, (s.port p).transmitter = .frame c) → (t.port p).transmitter = .idle)
      ∧ ((∀ c, (s.port p).transmitter ≠ .frame c) → (t.port p).transmitter = (s.port p).transmitter)
      ∧ (∀ q, q ≠ p → SamePortState (s.port q) (t.port q) ∧ (t.port q).storm = (s.port q).storm
          ∧ (t.port q).transmitter = (s.port q).transmitter ∧ (t.port q).queues = (s.port q).queues
          ∧ IngressFollows s t (s.queue p .c2) q)
      ∧ t.freeCount = s.freeCount + portCells (s.port p)
      ∧ LeftUncharged s t (fun u => portFramesOf u (s.port p))
      ∧ (∀ q : Fin 40, (t.port q).losslessCount
          = (s.port q).losslessCount - cellsFrom q (s.port p).queues.c2)
      ∧ (∀ x, x ∈ t.noticeSet .linkDown ↔ x ∈ s.noticeSet .linkDown ∨ x = p)
      ∧ ∀ k, k ≠ .linkDown → k ≠ .purgeDone → t.noticeSet k = s.noticeSet k

/-- R123, R132: POLICY_WRITE stores the fields that the record of its kind and class holds, at most 98,304 each, and
answers the record. QUEUE_READ answers the queue, the rotation position, the thresholds held and the free
count, and changes nothing. The port kinds' numbers are the model's reading (log entry 10). -/
def Obligations.PolicyAndQueueRequests : Prop :=
  (∀ (s : State) (m : Message) (keep : Bool), Running s 20 m keep →
     (2 ≤ num m 1 ∨ 4 ≤ num m 2 → exec .policyWrite s = .next (answered m keep .malformed [] s))
     ∧ (∀ k c, (num m 1 = 0 ∧ k = .downlink ∨ num m 1 = 1 ∧ k = .uplink) → num m 2 = Cls.number c →
       ∃ r : Policy, r.mark = min 98304 (num m 3)
         ∧ r.drop = (if c = .c2 then (s.policy k c).drop else min 98304 (num m 4))
         ∧ r.resteer = (if k = .uplink then min 98304 (num m 5) else (s.policy k c).resteer)
         ∧ r.throttle = (if c = .c0 then min 98304 (num m 6) else (s.policy k c).throttle)
         ∧ exec .policyWrite s = .next (answered m keep
             (if 98304 < num m 3 ∨ c ≠ .c2 ∧ 98304 < num m 4 ∨ k = .uplink ∧ 98304 < num m 5
               ∨ c = .c0 ∧ 98304 < num m 6 then .doneClamped else .done)
             [out r.mark, if c = .c2 then 0#32 else out r.drop,
               if k = .uplink then out r.resteer else 0#32, if c = .c0 then out r.throttle else 0#32]
             { s with policies := s.policies.set k ((s.policies.get k).set c r) })))
  ∧ (∀ (s : State) (m : Message) (keep : Bool), Running s 21 m keep →
       (40 ≤ num m 1 ∨ 4 ≤ num m 2 → exec .queueRead s = .next (answered m keep .malformed [] s))
       ∧ (∀ p c r pol, num m 1 = p → p < 40 → num m 2 = Cls.number c → r = s.port p →
         pol = s.policy (kindOfPort p) c →
         ∃ pauseLeft sending : List Word,
           (c = .c2 → r.c2State = .paused → ∀ x, r.pauseEnd = some x → pauseLeft = [out (x - s.timebase)])
           ∧ (c ≠ .c2 ∨ r.c2State ≠ .paused → pauseLeft = [0#32])
           ∧ (∀ f rest, r.transmitter = .frame c → s.queue p c = f :: rest →
               sending = [1#32, out f.cells, out f.tenant])
           ∧ (r.transmitter ≠ .frame c → sending = [0#32, 0#32, 0#32])
           ∧ exec .queueRead s = .next (answered m keep .done
             ([out (cellsOf (s.queue p c)), out (s.queue p c).length,
                 out (if c = .c2 then r.c2State.number else 0)]
               ++ pauseLeft ++ sending ++ [out r.rotation.val, out pol.mark,
                 if c = .c2 then 0#32 else out pol.drop, if 32 ≤ p then out pol.resteer else 0#32,
                 if c = .c0 then out pol.throttle else 0#32, out s.freeCount]) s)))

/-! ### Pause control -/

/-- R43, R140, R143: a pause message for C2 on a port that is UP acts by the queue's state and its duration,
and the storm timer follows; any other changes nothing. Messages shorter than 18 bytes hold free values
(log entry 7). -/
def Obligations.APauseMessageActsByTheQueueState : Prop :=
  ∀ (s : State) (p : Nat) (checkGood : Bool) (bytes : List Byte) (r : Port) (d : Nat), p < 40 →
    18 ≤ bytes.length → r = s.port p →
    d = 256 * (bytes.getD 16 0#8).toNat + (bytes.getD 17 0#8).toNat →
    (checkGood = false ∨ isPauseMessage bytes = false ∨ r.link ≠ .up
        ∨ (bytes.getD 14 0#8).toNat % 4 ≠ 2 →
      exec (.pauseMessageReceived p checkGood bytes) s = .next s)
    ∧ (checkGood = true → isPauseMessage bytes = true → r.link = .up →
      (bytes.getD 14 0#8).toNat % 4 = 2 → portTimed r →
      ∃ t x, exec (.pauseMessageReceived p checkGood bytes) s = .next t
        ∧ t = { s with ports := t.ports } ∧ (∀ q, q ≠ p → t.port q = s.port q)
        ∧ (r.c2State = .stalled → t.port p = r)
        ∧ (r.c2State = .ready → d = 0 → t.port p = r)
        ∧ (r.c2State ≠ .stalled → 0 < d →
            t.port p = { r with c2State := .paused, pauseEnd := some (s.timebase + d), storm := x }
            ∧ (r.queues.c2 = [] → x = none)
            ∧ (∀ y, r.storm = some y → x = some y)
            ∧ (r.storm = none → r.queues.c2 ≠ [] → x = some
                ⟨s.timebase, s.timebase + 10000 * (s.linkSettings.stormBudget + 1)⟩))
        ∧ (r.c2State = .paused → d = 0 →
            t.port p = { r with c2State := .ready, pauseEnd := none, storm := none }))

/-- R135 to R138, R141: the two threshold tests of the ingress side, wherever they are made; a renewal places a
fresh pause; a message goes out on the idle transmitter and its slot empties; its end frees the transmitter; a
pause expiry makes the queue READY. R189: what is on the wire is a message of 64 bytes; bytes 60 to 63 are
free values (log entry 41). -/
def Obligations.PauseTimersAndMessagesTakeTheirTurn : Prop :=
  (∀ (r : Port) (x : Control) (d : Nat), r.transmitter = .control x → d ≤ 65535 →
     x = .pause d ∨ x = .resume ∧ d = 0 →
     ∃ w, r.onWire = some w ∧ w.length = 64
       ∧ frameField w 0 6 = 0x01B7A4000001 ∧ frameField w 6 6 = 0 ∧ frameField w 12 2 = 0xB7A5
       ∧ frameField w 14 2 = 0x0200 ∧ frameField w 16 2 = d
       ∧ ∀ i, 18 ≤ i → i < 60 → w[i]? = some 0#8) ∧
  (∀ (r : Port) (q : PauseSettings) (now : Nat),
     (r.ingress = .flowing → r.link = .up → q.pauseOn ≤ r.losslessCount →
       r.pauseOnTest q now = { r with
         ingress := .pausing
         slot := some (.pause q.quantum)
         renewal := some (now + if q.quantum = 1 then 1 else q.quantum / 2) })
     ∧ (r.ingress = .pausing ∨ r.link ≠ .up ∨ r.losslessCount < q.pauseOn → r.pauseOnTest q now = r)
     ∧ (r.ingress = .pausing → r.losslessCount ≤ q.pauseOff →
       r.pauseOffTest q = { r with ingress := .flowing, slot := some .resume, renewal := none })
     ∧ (r.ingress = .flowing ∨ q.pauseOff < r.losslessCount → r.pauseOffTest q = r))
  ∧ (∀ (s : State) (p : Nat) (r : Port), p < 40 → r = s.port p →
       (∀ x, r.ingress = .pausing → r.renewal = some x → x ≤ s.timebase →
         exec (.renewalExpiry p) s = .next (s.setPort p { r with
           slot := some (.pause (s.pauseOf p).quantum)
           renewal := some (s.timebase
             + if (s.pauseOf p).quantum = 1 then 1 else (s.pauseOf p).quantum / 2) }))
       ∧ (∀ x, r.transmitter = .idle → r.link = .up → r.slot = some x →
         exec (.controlMessageSend p) s = .next (s.setPort p { r with
           transmitter := .control x, slot := none }))
       ∧ (∀ x, r.transmitter = .control x →
         exec (.controlMessageEnd p) s = .next (s.setPort p { r with transmitter := .idle }))
       ∧ (∀ x, r.c2State = .paused → r.pauseEnd = some x → x ≤ s.timebase →
         exec (.pauseExpiry p) s = .next (s.setPort p { r with
           c2State := .ready, pauseEnd := none, storm := none })))

/-- R144, R145: a storm expiry stalls and flushes the C2 queue, pends PAUSE_STORM, starts the recovery, and puts an
uplink in storm hold. Every frame is given back uncharged: a tenant differs in its in-buffer count alone, or
becomes VACANT exactly when R18 requires, and a port whose count falls to pause-off places its resume. The
recovery expiry makes a STALLED queue READY, ends the recovery and the storm hold, and pends nothing. -/
def Obligations.AStormStallsAndARecoveryEnds : Prop :=
  (∀ (s : State) (p : Nat) (x : StormTimer), p < 40 → (s.port p).storm = some x →
     x.expiry ≤ s.timebase → (∀ f ∈ s.queue p .c2, f.cls = .c2) →
     ∃ t, exec (.stormExpiry p) s = .next t ∧ OnlyBufferChanged s t
       ∧ t.queue p .c2 = [] ∧ (∀ q d, q ≠ p ∨ d ≠ .c2 → t.queue q d = s.queue q d)
       ∧ (t.port p).c2State = .stalled ∧ (t.port p).pauseEnd = none ∧ (t.port p).storm = none
       ∧ (t.port p).recoveryEnd = some (s.timebase + 1000 * s.linkSettings.recoveryMs)
       ∧ (32 ≤ p → (t.port p).stormHold = true)
       ∧ (p < 32 → (t.port p).stormHold = (s.port p).stormHold)
       ∧ (t.port p).link = (s.port p).link ∧ (t.port p).lane = (s.port p).lane
       ∧ (t.port p).debounceEnd = (s.port p).debounceEnd
       ∧ (t.port p).holdDownEnd = (s.port p).holdDownEnd
       ∧ (t.port p).flapHistory = (s.port p).flapHistory ∧ (t.port p).rotation = (s.port p).rotation
       ∧ ((s.port p).transmitter = .frame .c2 → (t.port p).transmitter = .idle)
       ∧ ((s.port p).transmitter ≠ .frame .c2 → (t.port p).transmitter = (s.port p).transmitter)
       ∧ (∀ q, q ≠ p → SamePortState (s.port q) (t.port q) ∧ (t.port q).storm = (s.port q).storm
           ∧ (t.port q).transmitter = (s.port q).transmitter)
       ∧ (∀ q, IngressFollows s t (s.queue p .c2) q)
       ∧ t.freeCount = s.freeCount + cellsOf (s.queue p .c2)
       ∧ LeftUncharged s t (fun u => framesOf u (s.queue p .c2))
       ∧ (∀ q : Fin 40, (t.port q).losslessCount
           = (s.port q).losslessCount - cellsFrom q (s.queue p .c2))
       ∧ (∀ x, x ∈ t.noticeSet .pauseStorm ↔ x ∈ s.noticeSet .pauseStorm ∨ x = p)
       ∧ ∀ k, k ≠ .pauseStorm → k ≠ .purgeDone → t.noticeSet k = s.noticeSet k)
  ∧ (∀ (s : State) (p x : Nat), p < 40 → (s.port p).recoveryEnd = some x → x ≤ s.timebase →
       exec (.recoveryExpiry p) s = .next (s.setPort p { s.port p with
         c2State := if (s.port p).c2State = .stalled then .ready else (s.port p).c2State
         recoveryEnd := none
         stormHold := false }))

/-- R148, R149: PAUSE_WRITE clamps in order, stores, and tests every port of the kind in the one event; a quantum
above 65,535 is a free value (log entry 11). PAUSE_READ answers the pause state of a port and changes nothing;
the two words of the pending control message are the model's choice (log entry 18). -/
def Obligations.PauseRequestsWriteAndRead : Prop :=
  (∀ (s : State) (m : Message) (keep : Bool), Running s 22 m keep → num m 4 ≤ 65535 →
     (2 ≤ num m 1 → exec .pauseWrite s = .next (answered m keep .malformed [] s))
     ∧ (∀ k, (num m 1 = 0 ∧ k = .downlink ∨ num m 1 = 1 ∧ k = .uplink) →
       ∃ q t, (q.pauseOn = if num m 2 = 0 then 1 else if 98304 < num m 2 then 98304 else num m 2)
         ∧ (q.pauseOff = if q.pauseOn ≤ num m 3 then q.pauseOn / 2 else num m 3)
         ∧ (q.quantum = if num m 4 = 0 then 1 else num m 4)
         ∧ exec .pauseWrite s = .next (answered m keep
             (if q.pauseOn = num m 2 ∧ q.pauseOff = num m 3 ∧ q.quantum = num m 4
               then .done else .doneClamped)
             [out q.pauseOn, out q.pauseOff, out q.quantum] t)
         ∧ t = { s with pauseSettings := s.pauseSettings.set k q, ports := t.ports }
         ∧ (∀ p, p < 40 → kindOfPort p = k → (s.port p).ingress = .flowing →
             t.port p = (s.port p).pauseOnTest q s.timebase)
         ∧ (∀ p, p < 40 → kindOfPort p = k → (s.port p).ingress = .pausing →
             t.port p = (s.port p).pauseOffTest q)
         ∧ ∀ p, 40 ≤ p ∨ kindOfPort p ≠ k → t.port p = s.port p))
  ∧ (∀ (s : State) (m : Message) (keep : Bool), Running s 23 m keep →
       (40 ≤ num m 1 → exec .pauseRead s = .next (answered m keep .malformed [] s))
       ∧ (∀ p r q, num m 1 = p → p < 40 → r = s.port p → q = s.pauseSettings.get (kindOfPort p) →
         exec .pauseRead s = .next (answered m keep .done
           ([out r.losslessCount, out r.ingress.number, out (r.renewal.elim 0 (· - s.timebase))]
             ++ outControl r.slot
             ++ [out q.pauseOn, out q.pauseOff, out q.quantum, out r.c2State.number,
               out (if r.c2State = .paused then r.pauseEnd.elim 0 (· - s.timebase) else 0),
               out (r.storm.elim 0 fun x => s.timebase - x.start),
               out (r.storm.elim 0 fun x => x.expiry - s.timebase),
               out (r.recoveryEnd.elim 0 (· - s.timebase)), outFlag r.stormHold]) s)))

/-! ### The link monitor -/

/-- R151 to R154, R156, R158, R159: a lane loss takes UP to SUSPECT with a debounce end and the effects of leaving UP,
PROVING to DOWN with an append and the down effects, and changes only the lane status in ADMIN_DOWN. A lane
lock returns SUSPECT to UP with the pause-on test and takes DOWN to PROVING with a hold-down end. What they do
in states without a row is the model's choice (log entry 35). A debounce expiry enters DOWN with an append and
the down effects; a hold-down expiry enters UP with the pause-on test and LINK_UP. -/
def Obligations.LinkEventsActByTheLinkState : Prop :=
  (∀ (s : State) (p : Nat) (r : Port), p < 40 → r = s.port p → r.lane = .locked →
     ∃ a : Port → State, (∀ r', a r' = { s with ports := (a r').ports } ∧ (a r').port p = r'
         ∧ ∀ q, q ≠ p → (a r').port q = s.port q)
       ∧ (r.link = .up → exec (.laneLoss p) s = .next (leaveUp p .suspect (a { r with
           lane := .lost
           debounceEnd := some (s.timebase + 1000 * s.linkSettings.debounceMs) })))
       ∧ (r.link = .proving → exec (.laneLoss p) s = .next (downEffects p (a { r with
           lane := .lost, link := .down, debounceEnd := none, holdDownEnd := none
           flapHistory := flapAppend r.flapHistory s.timebase s.linkSettings.windowS })))
       ∧ (r.link = .adminDown ∨ r.link = .down ∨ r.link = .suspect →
           exec (.laneLoss p) s = .next (a { r with lane := .lost })))
  ∧ (∀ (s : State) (p : Nat) (r : Port), p < 40 → r = s.port p → r.lane = .lost →
       ∃ t, exec (.laneLock p) s = .next t ∧ t = { s with ports := t.ports }
         ∧ (∀ q, q ≠ p → t.port q = s.port q)
         ∧ (r.link = .suspect → t.port p = Port.pauseOnTest
             { r with lane := .locked, link := .up, debounceEnd := none, holdDownEnd := none }
             (s.pauseOf p) s.timebase)
         ∧ (r.link = .down → t.port p = { r with
             lane := .locked, link := .proving
             holdDownEnd := some (s.timebase + holdDown r s.linkSettings s.timebase) })
         ∧ (r.link = .adminDown ∨ r.link = .up ∨ r.link = .proving →
             t.port p = { r with lane := .locked }))
  ∧ (∀ (s : State) (p x : Nat) (r : Port), p < 40 → r = s.port p → x ≤ s.timebase →
       (r.link = .suspect → r.debounceEnd = some x →
         exec (.debounceExpiry p) s = .next (downEffects p (s.setPort p { r with
           link := .down, debounceEnd := none, holdDownEnd := none
           flapHistory := flapAppend r.flapHistory s.timebase s.linkSettings.windowS })))
       ∧ (r.link = .proving → r.holdDownEnd = some x →
         exec (.holdDownExpiry p) s = .next (pend .linkUp p (s.setPort p (Port.pauseOnTest
           { r with link := .up, debounceEnd := none, holdDownEnd := none } (s.pauseOf p) s.timebase)))))

/-- R158, R159: an append drops the entries older than the window and adds now, and of nine entries then held
drops the oldest, and no other. The hold-down is the highest of the base, the flap penalty when enough recent faults stand in the
history, and what remains of a storm recovery. -/
def Obligations.FlapHistoryAndHoldDown : Prop :=
  (∀ (history : List Nat) (now windowS : Nat), history.length ≤ 8 →
     (flapAppend history now windowS).length ≤ 8
     ∧ (flapAppend history now windowS).getLast? = some now
     ∧ (∀ x ∈ flapAppend history now windowS, now - x ≤ 1000000 * windowS)
     ∧ ∃ kept old, kept = history.filter (fun x => now - x ≤ 1000000 * windowS)
         ∧ kept ++ [now] = old ++ flapAppend history now windowS
         ∧ (kept.length < 8 → old = []) ∧ (kept.length = 8 → old.length = 1))
  ∧ (∀ (r : Port) (g : LinkSettings) (now : Nat) (penalty recovery : Nat),
       (g.threshold ≤ (r.flapHistory.filter fun x => now - x ≤ 1000000 * g.windowS).length →
         penalty = 1000000 * g.penaltyS) →
       ((r.flapHistory.filter fun x => now - x ≤ 1000000 * g.windowS).length < g.threshold → penalty = 0) →
       (∀ x, r.recoveryEnd = some x → recovery = x - now) → (r.recoveryEnd = none → recovery = 0) →
       1000 * g.baseMs ≤ holdDown r g now ∧ penalty ≤ holdDown r g now ∧ recovery ≤ holdDown r g now
       ∧ holdDown r g now ∈ [1000 * g.baseMs, penalty, recovery])

/-- R161, R162: LINK_ADMIN takes a port down, with the down effects where it may hold frames, or returns an
ADMIN_DOWN port by its lane; it answers the states before and after. -/
def Obligations.LinkAdminMovesThePort : Prop :=
  ∀ (s : State) (m : Message) (keep : Bool) (p : Nat) (r : Port), Running s 24 m keep → num m 1 = p →
    r = s.port p →
    (40 ≤ p ∨ 2 ≤ num m 2 → exec (requestRow m) s = .next (answered m keep .malformed [] s))
    ∧ (p < 40 → num m 2 = 0 →
      (r.link = .up → exec .linkAdminDown s = .next (answered m keep .done [0#32, 4#32]
        (downEffects p (leaveUp p .adminDown s))))
      ∧ (r.link = .suspect ∨ r.link = .proving →
        exec .linkAdminDown s = .next (answered m keep .done [out r.link.number, 4#32]
          (downEffects p (s.setPort p { r with
            link := .adminDown, debounceEnd := none, holdDownEnd := none }))))
      ∧ (r.link = .down → exec .linkAdminDown s = .next (answered m keep .done [2#32, 4#32]
          (s.setPort p { r with link := .adminDown })))
      ∧ (r.link = .adminDown →
        exec .linkAdminDown s = .next (answered m keep .done [4#32, 4#32] s)))
    ∧ (p < 40 → num m 2 = 1 →
      (r.link = .adminDown → r.lane = .locked →
        exec .linkAdminUp s = .next (answered m keep .done [4#32, 3#32] (s.setPort p { r with
          link := .proving
          holdDownEnd := some (s.timebase + holdDown r s.linkSettings s.timebase) })))
      ∧ (r.link = .adminDown → r.lane = .lost →
        exec .linkAdminUp s = .next (answered m keep .done [4#32, 2#32]
          (s.setPort p { r with link := .down })))
      ∧ (r.link ≠ .adminDown →
        exec .linkAdminUp s = .next (answered m keep .done
          [out r.link.number, out r.link.number] s)))

/-- R163, R164: LINK_TIMING stores the seven settings within their bounds and answers them. LINK_READ answers the
port's record and the settings and changes nothing; the eight fixed places of the history are the model's
reading (log entry 9), and so are the two numbers of the lane status (log entry 10). -/
def Obligations.LinkSettingRequests : Prop :=
  (∀ (s : State) (m : Message) (keep : Bool) (g : LinkSettings), Running s 25 m keep →
     (g.debounceMs = if num m 1 = 0 then 1 else if 1000 < num m 1 then 1000 else num m 1) →
     (g.baseMs = if 60000 < num m 2 then 60000 else num m 2) →
     (g.penaltyS = if 600 < num m 3 then 600 else num m 3) →
     (g.threshold = if num m 4 = 0 then 1 else if 8 < num m 4 then 8 else num m 4) →
     (g.windowS = if num m 5 = 0 then 1 else if 3600 < num m 5 then 3600 else num m 5) →
     (g.stormBudget = if 255 < num m 6 then 255 else num m 6) →
     (g.recoveryMs = if num m 7 < 100 then 100 else if 60000 < num m 7 then 60000 else num m 7) →
     exec .linkTiming s = .next (answered m keep
       (if g.debounceMs = num m 1 ∧ g.baseMs = num m 2 ∧ g.penaltyS = num m 3 ∧ g.threshold = num m 4
         ∧ g.windowS = num m 5 ∧ g.stormBudget = num m 6 ∧ g.recoveryMs = num m 7
         then .done else .doneClamped)
       [out g.debounceMs, out g.baseMs, out g.penaltyS, out g.threshold, out g.windowS,
         out g.stormBudget, out g.recoveryMs]
       { s with linkSettings := g }))
  ∧ (∀ (s : State) (m : Message) (keep : Bool), Running s 26 m keep →
       (40 ≤ num m 1 → exec .linkRead s = .next (answered m keep .malformed [] s))
       ∧ (∀ r g, num m 1 < 40 → r = s.port (num m 1) → g = s.linkSettings →
         ∃ lane : Nat, (r.lane = .locked → lane = 0) ∧ (r.lane = .lost → lane = 1)
           ∧ exec .linkRead s = .next (answered m keep .done
             ([out (r.link.number + 256 * lane + 65536 * r.stormHold.toNat),
                 out (r.debounceEnd.elim 0 (· - s.timebase)), out (r.holdDownEnd.elim 0 (· - s.timebase)),
                 out (r.recoveryEnd.elim 0 (· - s.timebase)), out r.flapHistory.length]
               ++ (List.range 8).flatMap (fun i => out2 (r.flapHistory[i]?.getD 0))
               ++ [out (r.flapHistory.filter fun x => s.timebase - x ≤ 1000000 * g.windowS).length,
                 out g.debounceMs, out g.baseMs, out g.penaltyS, out g.threshold, out g.windowS,
                 out g.stormBudget, out g.recoveryMs, out s.timebase, out (s.timebase / 4294967296)]) s)))

/-! ### The Table Sweeper -/

/-- R168 to R171, R174: a pass start carries the pending jobs; a visit applies them at the slot of the position and
moves on, from station slot 16,383 to pin slot 0. SWEEP_READ answers the pending and carried jobs and changes
nothing; the position after pin slot 8,191 is a free value (log entry 24), and the phases' numbers are the
model's reading (log entry 10). R190: bit `n` of a set's bits tells whether `n` is a member. -/
def Obligations.APassCarriesItsJobsToEverySlot : Prop :=
  (∀ (width n : Nat) (l : NatSet),
     (setBits width l).testBit n = true ↔ n < width ∧ n ∈ l) ∧
  (∀ s : State, s.pass = none →
     (s.jobs.aging = true ∨ s.jobs.ports ≠ [] ∨ s.jobs.tenants ≠ [] ∨ s.jobs.sets ≠ []) →
     exec .passStart s = .next { s with
       jobs := { aging := false, ports := [], tenants := [], sets := [] }
       pass := some { carried := s.jobs, phase := .stations, position := 0 } })
  ∧ (∀ (s : State) (j : Jobs) (i : Nat) (next : Pass),
       s.pass = some { carried := j, phase := .stations, position := i } → i ≤ 16383 →
       (next = if i = 16383 then { carried := j, phase := .pins, position := 0 }
         else { carried := j, phase := .stations, position := i + 1 }) →
       (s.station i = none → exec .stationVisit s = .next { s with pass := some next })
       ∧ (∀ e, s.station i = some e →
         (∀ swept : Prop, (swept ↔ e.tenant ∈ j.tenants
             ∨ e.kind = .learned ∧ j.aging = true ∧ s.agingInterval ≤ s.timebase / 1000000 - e.lastSeen
             ∨ e.kind = .learned ∧ ∃ p : Fin 32, e.target = .downlink p ∧ p.val ∈ j.ports) →
           (swept → exec .stationVisit s = .next
             { (s.setStation i none).setTenant e.tenant
                 { s.tenant e.tenant with stationCount := (s.tenant e.tenant).stationCount - 1 } with
               pass := some next })
           ∧ (¬swept → exec .stationVisit s = .next { s with pass := some next }))))
  ∧ (∀ (s : State) (j : Jobs) (i : Nat) (swept : Prop),
       s.pass = some { carried := j, phase := .pins, position := i } → i ≤ 8191 →
       (swept ↔ (s.pin i).valid = true
         ∧ (j.aging = true ∧ 1000000 * s.pinExpiry ≤ s.timebase - (s.pin i).lastUse
           ∨ (s.pin i).origin.val ∈ j.sets ∨ (s.pin i).current.set.val ∈ j.sets)) →
       (swept → exec .pinVisit s = .next { s.setPin i { s.pin i with valid := false } with
         pass := some { carried := j, phase := .pins, position := i + 1 } })
       ∧ (¬swept → exec .pinVisit s = .next { s with
         pass := some { carried := j, phase := .pins, position := i + 1 } }))
  ∧ (∀ (s : State) (m : Message) (keep : Bool), Running s 27 m keep →
       (1024 ≤ num m 1 → exec .sweepRead s = .next (answered m keep .malformed [] s))
       ∧ (∀ carried : List Word, num m 1 < 1024 →
         (s.pass = none → carried = List.replicate 9 0#32) →
         (∀ q, s.pass = some q → q.phase = .stations ∨ q.position < 8192 →
           carried = [1#32, outFlag q.carried.aging, out (setBits 32 q.carried.ports),
             out (setBits 64 q.carried.sets), out (setBits 64 q.carried.sets / 4294967296),
             out q.carried.tenants.length, outFlag (decide (num m 1 ∈ q.carried.tenants)),
             out q.phase.number, out q.position]) →
         (∀ q, s.pass = some q → q.phase = .stations ∨ q.position < 8192) →
         exec .sweepRead s = .next (answered m keep .done
           ([outFlag s.jobs.aging, out (setBits 32 s.jobs.ports), out (setBits 64 s.jobs.sets),
               out (setBits 64 s.jobs.sets / 4294967296), out s.jobs.tenants.length,
               outFlag (decide (num m 1 ∈ s.jobs.tenants))]
             ++ carried ++ [out s.agingInterval, out s.pinExpiry]) s)))

/-- R172: once pin slot 8,191 has been visited the pass ends: the flushes and rebalances carried are
reported, and each purged tenant with no frame in the buffer becomes VACANT. -/
def Obligations.APassEndReportsTheCarriedJobs : Prop :=
  ∀ (s : State) (j : Jobs), s.pass = some { carried := j, phase := .pins, position := 8192 } →
    ∃ t, exec .passEnd s = .next t
      ∧ t = { s with
          pass := none, tenants := t.tenants, notices := t.notices, interruptsSent := t.interruptsSent }
      ∧ (∀ x, x ∈ t.noticeSet .flushDone ↔ x ∈ s.noticeSet .flushDone ∨ x ∈ j.ports)
      ∧ (∀ x, x ∈ t.noticeSet .rebalanceDone ↔ x ∈ s.noticeSet .rebalanceDone ∨ x ∈ j.sets)
      ∧ (∀ x, x ∈ t.noticeSet .purgeDone ↔ x ∈ s.noticeSet .purgeDone
          ∨ x ∈ j.tenants ∧ (s.tenant x).state = .draining ∧ (s.tenant x).inBuffer = 0
            ∧ x ∉ s.jobs.tenants)
      ∧ (∀ k, k ≠ .flushDone → k ≠ .rebalanceDone → k ≠ .purgeDone → t.noticeSet k = s.noticeSet k)
      ∧ (∀ x, x ∈ j.tenants → (s.tenant x).state = .draining → (s.tenant x).inBuffer = 0 →
          x ∉ s.jobs.tenants → t.tenant x = vacantTenant)
      ∧ (∀ x, x ∉ j.tenants ∨ (s.tenant x).state ≠ .draining ∨ (s.tenant x).inBuffer ≠ 0
          ∨ x ∈ s.jobs.tenants → t.tenant x = s.tenant x)

/-! ### Laws that every step keeps -/

/-- The state after power-on meets every law below. -/
def Obligations.PowerOnMeetsEveryLaw : Prop :=
  FreeCountLaw State.reset ∧ InBufferLaw State.reset ∧ LosslessLaw State.reset
  ∧ PortsQuiet State.reset ∧ PortsTimed State.reset ∧ PortsSend State.reset ∧ FlapsSound State.reset
  ∧ TenantsSound State.reset ∧ TenantsInRange State.reset ∧ ProfilesInRange State.reset
  ∧ EngineBounds State.reset ∧ Canonical State.reset ∧ StationsSound State.reset ∧ KeysSound State.reset
  ∧ PausesSound State.reset ∧ AgingSound State.reset

/-- R119: the free count plus the cells of all frames held equals 98,304, after every step. -/
def Obligations.EveryStepKeepsTheFreeCount : Prop :=
  ∀ s t : State, FreeCountLaw s → step s = .next t → FreeCountLaw t

/-- R4: each tenant's in-buffer count equals the frames held that are billed to it, after every step. -/
def Obligations.EveryStepKeepsTheInBufferCounts : Prop :=
  ∀ s t : State, InBufferLaw s → step s = .next t → InBufferLaw t

/-- R133: each port's lossless count equals the cells of the C2 frames held that entered there, after every
step. -/
def Obligations.EveryStepKeepsTheLosslessCounts : Prop :=
  ∀ s t : State, LosslessLaw s → step s = .next t → LosslessLaw t

/-- R131, R157: a port that is DOWN, ADMIN_DOWN or PROVING holds no frames, and a STALLED queue holds none,
after every step. -/
def Obligations.EveryStepKeepsQuietPortsEmpty : Prop :=
  ∀ s t : State, PortsQuiet s → step s = .next t → PortsQuiet t

/-- R120, R127, R134, R138 to R140, R143, R150: each timer of a port is set exactly in its state, only a port that is
UP transmits, and what it sends is the oldest frame of a queue that holds one, after every step. R137: the
count of a PAUSING port stays above pause-off, so every fall to pause-off has ended the pause. -/
def Obligations.EveryStepKeepsPortsConsistent : Prop :=
  (∀ s t : State, PortsTimed s → step s = .next t → PortsTimed t)
  ∧ (∀ s t : State, PortsSend s → step s = .next t → PortsSend t)
  ∧ (∀ s t : State, PausesSound s → step s = .next t → PausesSound t)

/-- 1.1, R3, R6, R18, R19, R29: a tenant open for traffic is in its derived state, a VACANT record holds its power-on
values, and money, meters, residues and profiles stay in their ranges, after every step. -/
def Obligations.EveryStepKeepsTenantAndProfileRecords : Prop :=
  (∀ s t : State, TenantsSound s → step s = .next t → TenantsSound t)
  ∧ ((∀ s t : State, TenantsInRange s → step s = .next t → TenantsInRange t)
     ∧ (∀ s t : State, ProfilesInRange s → step s = .next t → ProfilesInRange t))

/-- R158, R176, R178: flap histories hold at most eight entries in time order, the two queues at most 32
messages of 32 words, a reply slot kept for the request in execution, after every step. R38: the time of the
next AGING posting (the model's own field, log entry 22) stays a whole multiple of 10 s, at most 10 s
past the timebase, and is not passed over (log entry 3). -/
def Obligations.EveryStepKeepsHistoriesAndQueuesBounded : Prop :=
  (∀ s t : State, FlapsSound s → step s = .next t → FlapsSound t)
  ∧ (∀ s t : State, EngineBounds s → step s = .next t → EngineBounds t)
  ∧ (∀ s t : State, AgingSound s → step s = .next t → AgingSound t)

/-- Every table and set stays in its canonical form, so that equal contents are equal data. -/
def Obligations.EveryStepKeepsTheCanonicalForm : Prop :=
  ∀ s t : State, Canonical s → step s = .next t → Canonical t

/-- R5, R18, R78: each tenant's station count equals its entries and never exceeds its limit, and a VACANT
tenant owns no entry, after every step. R62, R63: the table holds at most one entry for each key, each in the
bucket of its key, after every step. -/
def Obligations.EveryStepKeepsTheStationCounts : Prop :=
  (∀ s t : State, StationsSound s → step s = .next t → StationsSound t)
  ∧ ∀ s t : State, KeysSound s → step s = .next t → KeysSound t
end

