-- ==== Sys2Proof/Laws/Table.lean ====
section
/-! SUPPORT. The laws of tables and sets: a read after a write, and the canonical form kept. The read
laws hold of every table; only the canonical form speaks of canonical ones. -/

namespace Sys2Proof.Machine

variable {α : Type}

/-! ### Reading -/

@[simp] theorem tableGet_nil (d : α) (k : Nat) : tableGet d [] k = d := rfl

theorem tableGet_put_same (d : α) (t : Table α) (k : Nat) (v : α) :
    tableGet d (tablePut t k v) k = v := by
  induction t with
  | nil => simp [tablePut, tableGet]
  | cons e rest ih =>
    obtain ⟨k', v'⟩ := e
    unfold tablePut
    split
    · simp [tableGet]
    · split
      · simp [tableGet]
      · next h => simp [tableGet, h, ih]

theorem tableGet_put_other (d : α) (t : Table α) {j k : Nat} (v : α) (h : j ≠ k) :
    tableGet d (tablePut t k v) j = tableGet d t j := by
  induction t with
  | nil => simp [tablePut, tableGet, h]
  | cons e rest ih =>
    obtain ⟨k', v'⟩ := e
    unfold tablePut
    split
    · simp [tableGet, h]
    · split
      · next hk => subst hk; simp [tableGet, h]
      · simp [tableGet, ih]

theorem tableGet_erase_same (d : α) (t : Table α) (k : Nat) :
    tableGet d (tableErase t k) k = d := by
  induction t with
  | nil => rfl
  | cons e rest ih =>
    obtain ⟨k', v'⟩ := e
    by_cases h : k' = k
    · simpa [tableErase, h] using ih
    · simpa [tableErase, h, tableGet, Ne.symm h] using ih

theorem tableGet_erase_other (d : α) (t : Table α) {j k : Nat} (h : j ≠ k) :
    tableGet d (tableErase t k) j = tableGet d t j := by
  induction t with
  | nil => rfl
  | cons e rest ih =>
    obtain ⟨k', v'⟩ := e
    by_cases hk : k' = k
    · subst hk; simp [tableErase, tableGet, h] at ih ⊢; exact ih
    · by_cases hj : j = k'
      · simp [tableErase, hk, tableGet, hj]
      · simpa [tableErase, hk, tableGet, hj] using ih

section Set
variable [DecidableEq α]

/-- A record written is read back. -/
@[simp] theorem tableGet_set_same (d : α) (t : Table α) (k : Nat) (v : α) :
    tableGet d (tableSet d t k v) k = v := by
  unfold tableSet
  split
  · next h => rw [tableGet_erase_same, h]
  · exact tableGet_put_same d t k v

/-- A write leaves every other record as it was. -/
theorem tableGet_set_other (d : α) (t : Table α) {j k : Nat} (v : α) (h : j ≠ k) :
    tableGet d (tableSet d t k v) j = tableGet d t j := by
  unfold tableSet
  split
  · exact tableGet_erase_other d t h
  · exact tableGet_put_other d t v h

/-- A read after a write, in one equation. -/
theorem tableGet_set (d : α) (t : Table α) (j k : Nat) (v : α) :
    tableGet d (tableSet d t k v) j = if j = k then v else tableGet d t j := by
  split
  · next h => rw [h, tableGet_set_same]
  · next h => exact tableGet_set_other d t v h

/-! ### The canonical form -/

/-- The keys rise strictly and no entry holds the power-on record. -/
theorem tableWf_iff (d : α) (t : Table α) :
    tableWf d t = true ↔ (t.map Prod.fst).Pairwise (· < ·) ∧ ∀ e ∈ t, e.2 ≠ d := by
  induction t with
  | nil => simp [tableWf]
  | cons e rest ih =>
    obtain ⟨k, v⟩ := e
    cases rest with
    | nil => simp [tableWf]
    | cons e' rest' =>
      obtain ⟨k', v'⟩ := e'
      simp only [tableWf, Bool.and_eq_true, ih, bne_iff_ne, decide_eq_true_eq, List.map_cons,
        List.pairwise_cons, List.mem_cons, forall_eq_or_imp]
      constructor
      · rintro ⟨⟨hv, hk⟩, ⟨h1, h2⟩, h3⟩
        exact ⟨⟨⟨hk, fun a ha => Nat.lt_trans hk (h1 a ha)⟩, h1, h2⟩, hv, h3⟩
      · rintro ⟨⟨⟨hk, _⟩, h1, h2⟩, hv, h3⟩
        exact ⟨⟨hv, hk⟩, ⟨h1, h2⟩, h3⟩

omit [DecidableEq α] in
theorem mem_tablePut {t : Table α} {k : Nat} {v : α} {e : Nat × α} (h : e ∈ tablePut t k v) :
    e = (k, v) ∨ e ∈ t := by
  induction t with
  | nil => simpa [tablePut] using h
  | cons e' rest ih =>
    obtain ⟨k', v'⟩ := e'
    unfold tablePut at h
    split at h
    · simpa using h
    · split at h
      · rcases List.mem_cons.mp h with h | h
        · exact .inl h
        · exact .inr (List.mem_cons_of_mem _ h)
      · rcases List.mem_cons.mp h with h | h
        · exact .inr (h ▸ List.mem_cons_self)
        · exact (ih h).imp id (List.mem_cons_of_mem _)

theorem tablePut_wf (d : α) (t : Table α) (k : Nat) (v : α) (hv : v ≠ d) (h : tableWf d t = true) :
    tableWf d (tablePut t k v) = true := by
  rw [tableWf_iff] at h ⊢
  refine ⟨?_, fun e he => ?_⟩
  · obtain ⟨h, -⟩ := h
    induction t with
    | nil => simp [tablePut]
    | cons e rest ih =>
      obtain ⟨k', v'⟩ := e
      simp only [List.map_cons, List.pairwise_cons] at h
      unfold tablePut
      split
      · next hk =>
        simp only [List.map_cons, List.pairwise_cons, List.mem_cons, forall_eq_or_imp]
        exact ⟨⟨hk, fun a ha => Nat.lt_trans hk (h.1 a ha)⟩, h⟩
      · split
        · next hk => simpa [hk] using h
        · next h1 h2 =>
          simp only [List.map_cons, List.pairwise_cons]
          refine ⟨fun a ha => ?_, ih h.2⟩
          obtain ⟨e, he, rfl⟩ := List.mem_map.mp ha
          rcases mem_tablePut he with rfl | he
          · show k' < k
            omega
          · exact h.1 _ (List.mem_map.mpr ⟨e, he, rfl⟩)
  · rcases mem_tablePut he with rfl | he
    · exact hv
    · exact h.2 e he

theorem tableErase_wf (d : α) (t : Table α) (k : Nat) (h : tableWf d t = true) :
    tableWf d (tableErase t k) = true := by
  rw [tableWf_iff] at h ⊢
  refine ⟨h.1.sublist ((List.filter_sublist).map _), fun e he => h.2 e (List.mem_of_mem_filter he)⟩

/-- Every write keeps the canonical form. -/
theorem tableSet_wf (d : α) (t : Table α) (k : Nat) (v : α) (h : tableWf d t = true) :
    tableWf d (tableSet d t k v) = true := by
  unfold tableSet
  split
  · exact tableErase_wf d t k h
  · next hv => exact tablePut_wf d t k v hv h

end Set

/-! ### Sets -/

@[simp] theorem mem_setInsert (l : NatSet) (x y : Nat) : y ∈ setInsert l x ↔ y = x ∨ y ∈ l := by
  induction l with
  | nil => simp [setInsert]
  | cons z rest ih =>
    unfold setInsert
    split
    · simp
    · split
      · next h => subst h; simp
      · simp only [List.mem_cons, ih]; tauto

@[simp] theorem mem_setErase (l : NatSet) (x y : Nat) : y ∈ setErase l x ↔ y ∈ l ∧ y ≠ x := by
  simp [setErase]

@[simp] theorem setHas_iff (l : NatSet) (x : Nat) : setHas l x = true ↔ x ∈ l := by
  simp [setHas]

/-- The members rise strictly. -/
theorem setWf_iff (l : NatSet) : setWf l = true ↔ l.Pairwise (· < ·) := by
  induction l with
  | nil => simp [setWf]
  | cons x rest ih =>
    cases rest with
    | nil => simp [setWf]
    | cons y rest' =>
      simp only [setWf, Bool.and_eq_true, decide_eq_true_eq, ih, List.pairwise_cons, List.mem_cons,
        forall_eq_or_imp]
      constructor
      · rintro ⟨hxy, h1, h2⟩
        exact ⟨⟨hxy, fun a ha => Nat.lt_trans hxy (h1 a ha)⟩, h1, h2⟩
      · rintro ⟨⟨hxy, _⟩, h⟩
        exact ⟨hxy, h⟩

/-- Joining a member keeps the canonical form. -/
theorem setInsert_wf (l : NatSet) (x : Nat) (h : setWf l = true) : setWf (setInsert l x) = true := by
  rw [setWf_iff] at h ⊢
  induction l with
  | nil => simp [setInsert]
  | cons y rest ih =>
    have h' := List.pairwise_cons.mp h
    unfold setInsert
    split
    · next hxy =>
      exact List.pairwise_cons.mpr ⟨fun a ha => by
        rcases List.mem_cons.mp ha with rfl | ha
        · exact hxy
        · exact Nat.lt_trans hxy (h'.1 a ha), h⟩
    · split
      · exact h
      · next h1 h2 =>
        refine List.pairwise_cons.mpr ⟨fun a ha => ?_, ih h'.2⟩
        rcases (mem_setInsert rest x a).mp ha with rfl | ha
        · omega
        · exact h'.1 a ha

/-- Removing a member keeps the canonical form. -/
theorem setErase_wf (l : NatSet) (x : Nat) (h : setWf l = true) : setWf (setErase l x) = true := by
  rw [setWf_iff] at h ⊢
  exact h.sublist List.filter_sublist

end Sys2Proof.Machine
end

