-- ==== Sys2Proof/Laws/State.lean ====
section
/-! SUPPORT. One lemma for each field of State and each update that leaves it, and for each record view:
what a read finds after a write. With them no proof unfolds a record update. -/

namespace Sys2Proof.Machine

variable (s : State)

/-! ### setTenant -/

@[simp] theorem State.setTenant_timebase (t : Nat) (r : Tenant) : (s.setTenant t r).timebase = s.timebase := rfl
@[simp] theorem State.setTenant_nextAging (t : Nat) (r : Tenant) : (s.setTenant t r).nextAging = s.nextAging := rfl
@[simp] theorem State.setTenant_clock (t : Nat) (r : Tenant) : (s.setTenant t r).clock = s.clock := rfl
@[simp] theorem State.setTenant_profiles (t : Nat) (r : Tenant) : (s.setTenant t r).profiles = s.profiles := rfl
@[simp] theorem State.setTenant_stations (t : Nat) (r : Tenant) : (s.setTenant t r).stations = s.stations := rfl
@[simp] theorem State.setTenant_agingInterval (t : Nat) (r : Tenant) : (s.setTenant t r).agingInterval = s.agingInterval := rfl
@[simp] theorem State.setTenant_pinExpiry (t : Nat) (r : Tenant) : (s.setTenant t r).pinExpiry = s.pinExpiry := rfl
@[simp] theorem State.setTenant_pathSets (t : Nat) (r : Tenant) : (s.setTenant t r).pathSets = s.pathSets := rfl
@[simp] theorem State.setTenant_pins (t : Nat) (r : Tenant) : (s.setTenant t r).pins = s.pins := rfl
@[simp] theorem State.setTenant_ports (t : Nat) (r : Tenant) : (s.setTenant t r).ports = s.ports := rfl
@[simp] theorem State.setTenant_freeCount (t : Nat) (r : Tenant) : (s.setTenant t r).freeCount = s.freeCount := rfl
@[simp] theorem State.setTenant_policies (t : Nat) (r : Tenant) : (s.setTenant t r).policies = s.policies := rfl
@[simp] theorem State.setTenant_pauseSettings (t : Nat) (r : Tenant) : (s.setTenant t r).pauseSettings = s.pauseSettings := rfl
@[simp] theorem State.setTenant_linkSettings (t : Nat) (r : Tenant) : (s.setTenant t r).linkSettings = s.linkSettings := rfl
@[simp] theorem State.setTenant_jobs (t : Nat) (r : Tenant) : (s.setTenant t r).jobs = s.jobs := rfl
@[simp] theorem State.setTenant_pass (t : Nat) (r : Tenant) : (s.setTenant t r).pass = s.pass := rfl
@[simp] theorem State.setTenant_postingArea (t : Nat) (r : Tenant) : (s.setTenant t r).postingArea = s.postingArea := rfl
@[simp] theorem State.setTenant_requests (t : Nat) (r : Tenant) : (s.setTenant t r).requests = s.requests := rfl
@[simp] theorem State.setTenant_execution (t : Nat) (r : Tenant) : (s.setTenant t r).execution = s.execution := rfl
@[simp] theorem State.setTenant_replies (t : Nat) (r : Tenant) : (s.setTenant t r).replies = s.replies := rfl
@[simp] theorem State.setTenant_overrun (t : Nat) (r : Tenant) : (s.setTenant t r).overrun = s.overrun := rfl
@[simp] theorem State.setTenant_notices (t : Nat) (r : Tenant) : (s.setTenant t r).notices = s.notices := rfl
@[simp] theorem State.setTenant_masks (t : Nat) (r : Tenant) : (s.setTenant t r).masks = s.masks := rfl
@[simp] theorem State.setTenant_inFlight (t : Nat) (r : Tenant) : (s.setTenant t r).inFlight = s.inFlight := rfl
@[simp] theorem State.setTenant_interruptsSent (t : Nat) (r : Tenant) : (s.setTenant t r).interruptsSent = s.interruptsSent := rfl
@[simp] theorem State.setTenant_draws (t : Nat) (r : Tenant) : (s.setTenant t r).draws = s.draws := rfl
@[simp] theorem State.setTenant_pending (t : Nat) (r : Tenant) : (s.setTenant t r).pending = s.pending := rfl
@[simp] theorem State.setTenant_profile (t : Nat) (r : Tenant) (n : Nat) : (s.setTenant t r).profile n = s.profile n := rfl
@[simp] theorem State.setTenant_station (t : Nat) (r : Tenant) (j : Nat) : (s.setTenant t r).station j = s.station j := rfl
@[simp] theorem State.setTenant_pathSet (t : Nat) (r : Tenant) (n : Nat) : (s.setTenant t r).pathSet n = s.pathSet n := rfl
@[simp] theorem State.setTenant_pin (t : Nat) (r : Tenant) (j : Nat) : (s.setTenant t r).pin j = s.pin j := rfl
@[simp] theorem State.setTenant_port (t : Nat) (r : Tenant) (q : Nat) : (s.setTenant t r).port q = s.port q := rfl
@[simp] theorem State.setTenant_noticeSet (t : Nat) (r : Tenant) (k : NoticeKind) : (s.setTenant t r).noticeSet k = s.noticeSet k := rfl

/-! ### setProfile -/

@[simp] theorem State.setProfile_timebase (i : Nat) (r : Profile) : (s.setProfile i r).timebase = s.timebase := rfl
@[simp] theorem State.setProfile_nextAging (i : Nat) (r : Profile) : (s.setProfile i r).nextAging = s.nextAging := rfl
@[simp] theorem State.setProfile_clock (i : Nat) (r : Profile) : (s.setProfile i r).clock = s.clock := rfl
@[simp] theorem State.setProfile_tenants (i : Nat) (r : Profile) : (s.setProfile i r).tenants = s.tenants := rfl
@[simp] theorem State.setProfile_stations (i : Nat) (r : Profile) : (s.setProfile i r).stations = s.stations := rfl
@[simp] theorem State.setProfile_agingInterval (i : Nat) (r : Profile) : (s.setProfile i r).agingInterval = s.agingInterval := rfl
@[simp] theorem State.setProfile_pinExpiry (i : Nat) (r : Profile) : (s.setProfile i r).pinExpiry = s.pinExpiry := rfl
@[simp] theorem State.setProfile_pathSets (i : Nat) (r : Profile) : (s.setProfile i r).pathSets = s.pathSets := rfl
@[simp] theorem State.setProfile_pins (i : Nat) (r : Profile) : (s.setProfile i r).pins = s.pins := rfl
@[simp] theorem State.setProfile_ports (i : Nat) (r : Profile) : (s.setProfile i r).ports = s.ports := rfl
@[simp] theorem State.setProfile_freeCount (i : Nat) (r : Profile) : (s.setProfile i r).freeCount = s.freeCount := rfl
@[simp] theorem State.setProfile_policies (i : Nat) (r : Profile) : (s.setProfile i r).policies = s.policies := rfl
@[simp] theorem State.setProfile_pauseSettings (i : Nat) (r : Profile) : (s.setProfile i r).pauseSettings = s.pauseSettings := rfl
@[simp] theorem State.setProfile_linkSettings (i : Nat) (r : Profile) : (s.setProfile i r).linkSettings = s.linkSettings := rfl
@[simp] theorem State.setProfile_jobs (i : Nat) (r : Profile) : (s.setProfile i r).jobs = s.jobs := rfl
@[simp] theorem State.setProfile_pass (i : Nat) (r : Profile) : (s.setProfile i r).pass = s.pass := rfl
@[simp] theorem State.setProfile_postingArea (i : Nat) (r : Profile) : (s.setProfile i r).postingArea = s.postingArea := rfl
@[simp] theorem State.setProfile_requests (i : Nat) (r : Profile) : (s.setProfile i r).requests = s.requests := rfl
@[simp] theorem State.setProfile_execution (i : Nat) (r : Profile) : (s.setProfile i r).execution = s.execution := rfl
@[simp] theorem State.setProfile_replies (i : Nat) (r : Profile) : (s.setProfile i r).replies = s.replies := rfl
@[simp] theorem State.setProfile_overrun (i : Nat) (r : Profile) : (s.setProfile i r).overrun = s.overrun := rfl
@[simp] theorem State.setProfile_notices (i : Nat) (r : Profile) : (s.setProfile i r).notices = s.notices := rfl
@[simp] theorem State.setProfile_masks (i : Nat) (r : Profile) : (s.setProfile i r).masks = s.masks := rfl
@[simp] theorem State.setProfile_inFlight (i : Nat) (r : Profile) : (s.setProfile i r).inFlight = s.inFlight := rfl
@[simp] theorem State.setProfile_interruptsSent (i : Nat) (r : Profile) : (s.setProfile i r).interruptsSent = s.interruptsSent := rfl
@[simp] theorem State.setProfile_draws (i : Nat) (r : Profile) : (s.setProfile i r).draws = s.draws := rfl
@[simp] theorem State.setProfile_pending (i : Nat) (r : Profile) : (s.setProfile i r).pending = s.pending := rfl
@[simp] theorem State.setProfile_tenant (i : Nat) (r : Profile) (u : Nat) : (s.setProfile i r).tenant u = s.tenant u := rfl
@[simp] theorem State.setProfile_station (i : Nat) (r : Profile) (j : Nat) : (s.setProfile i r).station j = s.station j := rfl
@[simp] theorem State.setProfile_pathSet (i : Nat) (r : Profile) (n : Nat) : (s.setProfile i r).pathSet n = s.pathSet n := rfl
@[simp] theorem State.setProfile_pin (i : Nat) (r : Profile) (j : Nat) : (s.setProfile i r).pin j = s.pin j := rfl
@[simp] theorem State.setProfile_port (i : Nat) (r : Profile) (q : Nat) : (s.setProfile i r).port q = s.port q := rfl
@[simp] theorem State.setProfile_noticeSet (i : Nat) (r : Profile) (k : NoticeKind) : (s.setProfile i r).noticeSet k = s.noticeSet k := rfl

/-! ### setStation -/

@[simp] theorem State.setStation_timebase (i : Nat) (e : Option Entry) : (s.setStation i e).timebase = s.timebase := rfl
@[simp] theorem State.setStation_nextAging (i : Nat) (e : Option Entry) : (s.setStation i e).nextAging = s.nextAging := rfl
@[simp] theorem State.setStation_clock (i : Nat) (e : Option Entry) : (s.setStation i e).clock = s.clock := rfl
@[simp] theorem State.setStation_tenants (i : Nat) (e : Option Entry) : (s.setStation i e).tenants = s.tenants := rfl
@[simp] theorem State.setStation_profiles (i : Nat) (e : Option Entry) : (s.setStation i e).profiles = s.profiles := rfl
@[simp] theorem State.setStation_agingInterval (i : Nat) (e : Option Entry) : (s.setStation i e).agingInterval = s.agingInterval := rfl
@[simp] theorem State.setStation_pinExpiry (i : Nat) (e : Option Entry) : (s.setStation i e).pinExpiry = s.pinExpiry := rfl
@[simp] theorem State.setStation_pathSets (i : Nat) (e : Option Entry) : (s.setStation i e).pathSets = s.pathSets := rfl
@[simp] theorem State.setStation_pins (i : Nat) (e : Option Entry) : (s.setStation i e).pins = s.pins := rfl
@[simp] theorem State.setStation_ports (i : Nat) (e : Option Entry) : (s.setStation i e).ports = s.ports := rfl
@[simp] theorem State.setStation_freeCount (i : Nat) (e : Option Entry) : (s.setStation i e).freeCount = s.freeCount := rfl
@[simp] theorem State.setStation_policies (i : Nat) (e : Option Entry) : (s.setStation i e).policies = s.policies := rfl
@[simp] theorem State.setStation_pauseSettings (i : Nat) (e : Option Entry) : (s.setStation i e).pauseSettings = s.pauseSettings := rfl
@[simp] theorem State.setStation_linkSettings (i : Nat) (e : Option Entry) : (s.setStation i e).linkSettings = s.linkSettings := rfl
@[simp] theorem State.setStation_jobs (i : Nat) (e : Option Entry) : (s.setStation i e).jobs = s.jobs := rfl
@[simp] theorem State.setStation_pass (i : Nat) (e : Option Entry) : (s.setStation i e).pass = s.pass := rfl
@[simp] theorem State.setStation_postingArea (i : Nat) (e : Option Entry) : (s.setStation i e).postingArea = s.postingArea := rfl
@[simp] theorem State.setStation_requests (i : Nat) (e : Option Entry) : (s.setStation i e).requests = s.requests := rfl
@[simp] theorem State.setStation_execution (i : Nat) (e : Option Entry) : (s.setStation i e).execution = s.execution := rfl
@[simp] theorem State.setStation_replies (i : Nat) (e : Option Entry) : (s.setStation i e).replies = s.replies := rfl
@[simp] theorem State.setStation_overrun (i : Nat) (e : Option Entry) : (s.setStation i e).overrun = s.overrun := rfl
@[simp] theorem State.setStation_notices (i : Nat) (e : Option Entry) : (s.setStation i e).notices = s.notices := rfl
@[simp] theorem State.setStation_masks (i : Nat) (e : Option Entry) : (s.setStation i e).masks = s.masks := rfl
@[simp] theorem State.setStation_inFlight (i : Nat) (e : Option Entry) : (s.setStation i e).inFlight = s.inFlight := rfl
@[simp] theorem State.setStation_interruptsSent (i : Nat) (e : Option Entry) : (s.setStation i e).interruptsSent = s.interruptsSent := rfl
@[simp] theorem State.setStation_draws (i : Nat) (e : Option Entry) : (s.setStation i e).draws = s.draws := rfl
@[simp] theorem State.setStation_pending (i : Nat) (e : Option Entry) : (s.setStation i e).pending = s.pending := rfl
@[simp] theorem State.setStation_tenant (i : Nat) (e : Option Entry) (u : Nat) : (s.setStation i e).tenant u = s.tenant u := rfl
@[simp] theorem State.setStation_profile (i : Nat) (e : Option Entry) (n : Nat) : (s.setStation i e).profile n = s.profile n := rfl
@[simp] theorem State.setStation_pathSet (i : Nat) (e : Option Entry) (n : Nat) : (s.setStation i e).pathSet n = s.pathSet n := rfl
@[simp] theorem State.setStation_pin (i : Nat) (e : Option Entry) (j : Nat) : (s.setStation i e).pin j = s.pin j := rfl
@[simp] theorem State.setStation_port (i : Nat) (e : Option Entry) (q : Nat) : (s.setStation i e).port q = s.port q := rfl
@[simp] theorem State.setStation_noticeSet (i : Nat) (e : Option Entry) (k : NoticeKind) : (s.setStation i e).noticeSet k = s.noticeSet k := rfl

/-! ### setPathSet -/

@[simp] theorem State.setPathSet_timebase (i : Nat) (r : PathSet) : (s.setPathSet i r).timebase = s.timebase := rfl
@[simp] theorem State.setPathSet_nextAging (i : Nat) (r : PathSet) : (s.setPathSet i r).nextAging = s.nextAging := rfl
@[simp] theorem State.setPathSet_clock (i : Nat) (r : PathSet) : (s.setPathSet i r).clock = s.clock := rfl
@[simp] theorem State.setPathSet_tenants (i : Nat) (r : PathSet) : (s.setPathSet i r).tenants = s.tenants := rfl
@[simp] theorem State.setPathSet_profiles (i : Nat) (r : PathSet) : (s.setPathSet i r).profiles = s.profiles := rfl
@[simp] theorem State.setPathSet_stations (i : Nat) (r : PathSet) : (s.setPathSet i r).stations = s.stations := rfl
@[simp] theorem State.setPathSet_agingInterval (i : Nat) (r : PathSet) : (s.setPathSet i r).agingInterval = s.agingInterval := rfl
@[simp] theorem State.setPathSet_pinExpiry (i : Nat) (r : PathSet) : (s.setPathSet i r).pinExpiry = s.pinExpiry := rfl
@[simp] theorem State.setPathSet_pins (i : Nat) (r : PathSet) : (s.setPathSet i r).pins = s.pins := rfl
@[simp] theorem State.setPathSet_ports (i : Nat) (r : PathSet) : (s.setPathSet i r).ports = s.ports := rfl
@[simp] theorem State.setPathSet_freeCount (i : Nat) (r : PathSet) : (s.setPathSet i r).freeCount = s.freeCount := rfl
@[simp] theorem State.setPathSet_policies (i : Nat) (r : PathSet) : (s.setPathSet i r).policies = s.policies := rfl
@[simp] theorem State.setPathSet_pauseSettings (i : Nat) (r : PathSet) : (s.setPathSet i r).pauseSettings = s.pauseSettings := rfl
@[simp] theorem State.setPathSet_linkSettings (i : Nat) (r : PathSet) : (s.setPathSet i r).linkSettings = s.linkSettings := rfl
@[simp] theorem State.setPathSet_jobs (i : Nat) (r : PathSet) : (s.setPathSet i r).jobs = s.jobs := rfl
@[simp] theorem State.setPathSet_pass (i : Nat) (r : PathSet) : (s.setPathSet i r).pass = s.pass := rfl
@[simp] theorem State.setPathSet_postingArea (i : Nat) (r : PathSet) : (s.setPathSet i r).postingArea = s.postingArea := rfl
@[simp] theorem State.setPathSet_requests (i : Nat) (r : PathSet) : (s.setPathSet i r).requests = s.requests := rfl
@[simp] theorem State.setPathSet_execution (i : Nat) (r : PathSet) : (s.setPathSet i r).execution = s.execution := rfl
@[simp] theorem State.setPathSet_replies (i : Nat) (r : PathSet) : (s.setPathSet i r).replies = s.replies := rfl
@[simp] theorem State.setPathSet_overrun (i : Nat) (r : PathSet) : (s.setPathSet i r).overrun = s.overrun := rfl
@[simp] theorem State.setPathSet_notices (i : Nat) (r : PathSet) : (s.setPathSet i r).notices = s.notices := rfl
@[simp] theorem State.setPathSet_masks (i : Nat) (r : PathSet) : (s.setPathSet i r).masks = s.masks := rfl
@[simp] theorem State.setPathSet_inFlight (i : Nat) (r : PathSet) : (s.setPathSet i r).inFlight = s.inFlight := rfl
@[simp] theorem State.setPathSet_interruptsSent (i : Nat) (r : PathSet) : (s.setPathSet i r).interruptsSent = s.interruptsSent := rfl
@[simp] theorem State.setPathSet_draws (i : Nat) (r : PathSet) : (s.setPathSet i r).draws = s.draws := rfl
@[simp] theorem State.setPathSet_pending (i : Nat) (r : PathSet) : (s.setPathSet i r).pending = s.pending := rfl
@[simp] theorem State.setPathSet_tenant (i : Nat) (r : PathSet) (u : Nat) : (s.setPathSet i r).tenant u = s.tenant u := rfl
@[simp] theorem State.setPathSet_profile (i : Nat) (r : PathSet) (n : Nat) : (s.setPathSet i r).profile n = s.profile n := rfl
@[simp] theorem State.setPathSet_station (i : Nat) (r : PathSet) (j : Nat) : (s.setPathSet i r).station j = s.station j := rfl
@[simp] theorem State.setPathSet_pin (i : Nat) (r : PathSet) (j : Nat) : (s.setPathSet i r).pin j = s.pin j := rfl
@[simp] theorem State.setPathSet_port (i : Nat) (r : PathSet) (q : Nat) : (s.setPathSet i r).port q = s.port q := rfl
@[simp] theorem State.setPathSet_noticeSet (i : Nat) (r : PathSet) (k : NoticeKind) : (s.setPathSet i r).noticeSet k = s.noticeSet k := rfl

/-! ### setPin -/

@[simp] theorem State.setPin_timebase (i : Nat) (r : Pin) : (s.setPin i r).timebase = s.timebase := rfl
@[simp] theorem State.setPin_nextAging (i : Nat) (r : Pin) : (s.setPin i r).nextAging = s.nextAging := rfl
@[simp] theorem State.setPin_clock (i : Nat) (r : Pin) : (s.setPin i r).clock = s.clock := rfl
@[simp] theorem State.setPin_tenants (i : Nat) (r : Pin) : (s.setPin i r).tenants = s.tenants := rfl
@[simp] theorem State.setPin_profiles (i : Nat) (r : Pin) : (s.setPin i r).profiles = s.profiles := rfl
@[simp] theorem State.setPin_stations (i : Nat) (r : Pin) : (s.setPin i r).stations = s.stations := rfl
@[simp] theorem State.setPin_agingInterval (i : Nat) (r : Pin) : (s.setPin i r).agingInterval = s.agingInterval := rfl
@[simp] theorem State.setPin_pinExpiry (i : Nat) (r : Pin) : (s.setPin i r).pinExpiry = s.pinExpiry := rfl
@[simp] theorem State.setPin_pathSets (i : Nat) (r : Pin) : (s.setPin i r).pathSets = s.pathSets := rfl
@[simp] theorem State.setPin_ports (i : Nat) (r : Pin) : (s.setPin i r).ports = s.ports := rfl
@[simp] theorem State.setPin_freeCount (i : Nat) (r : Pin) : (s.setPin i r).freeCount = s.freeCount := rfl
@[simp] theorem State.setPin_policies (i : Nat) (r : Pin) : (s.setPin i r).policies = s.policies := rfl
@[simp] theorem State.setPin_pauseSettings (i : Nat) (r : Pin) : (s.setPin i r).pauseSettings = s.pauseSettings := rfl
@[simp] theorem State.setPin_linkSettings (i : Nat) (r : Pin) : (s.setPin i r).linkSettings = s.linkSettings := rfl
@[simp] theorem State.setPin_jobs (i : Nat) (r : Pin) : (s.setPin i r).jobs = s.jobs := rfl
@[simp] theorem State.setPin_pass (i : Nat) (r : Pin) : (s.setPin i r).pass = s.pass := rfl
@[simp] theorem State.setPin_postingArea (i : Nat) (r : Pin) : (s.setPin i r).postingArea = s.postingArea := rfl
@[simp] theorem State.setPin_requests (i : Nat) (r : Pin) : (s.setPin i r).requests = s.requests := rfl
@[simp] theorem State.setPin_execution (i : Nat) (r : Pin) : (s.setPin i r).execution = s.execution := rfl
@[simp] theorem State.setPin_replies (i : Nat) (r : Pin) : (s.setPin i r).replies = s.replies := rfl
@[simp] theorem State.setPin_overrun (i : Nat) (r : Pin) : (s.setPin i r).overrun = s.overrun := rfl
@[simp] theorem State.setPin_notices (i : Nat) (r : Pin) : (s.setPin i r).notices = s.notices := rfl
@[simp] theorem State.setPin_masks (i : Nat) (r : Pin) : (s.setPin i r).masks = s.masks := rfl
@[simp] theorem State.setPin_inFlight (i : Nat) (r : Pin) : (s.setPin i r).inFlight = s.inFlight := rfl
@[simp] theorem State.setPin_interruptsSent (i : Nat) (r : Pin) : (s.setPin i r).interruptsSent = s.interruptsSent := rfl
@[simp] theorem State.setPin_draws (i : Nat) (r : Pin) : (s.setPin i r).draws = s.draws := rfl
@[simp] theorem State.setPin_pending (i : Nat) (r : Pin) : (s.setPin i r).pending = s.pending := rfl
@[simp] theorem State.setPin_tenant (i : Nat) (r : Pin) (u : Nat) : (s.setPin i r).tenant u = s.tenant u := rfl
@[simp] theorem State.setPin_profile (i : Nat) (r : Pin) (n : Nat) : (s.setPin i r).profile n = s.profile n := rfl
@[simp] theorem State.setPin_station (i : Nat) (r : Pin) (j : Nat) : (s.setPin i r).station j = s.station j := rfl
@[simp] theorem State.setPin_pathSet (i : Nat) (r : Pin) (n : Nat) : (s.setPin i r).pathSet n = s.pathSet n := rfl
@[simp] theorem State.setPin_port (i : Nat) (r : Pin) (q : Nat) : (s.setPin i r).port q = s.port q := rfl
@[simp] theorem State.setPin_noticeSet (i : Nat) (r : Pin) (k : NoticeKind) : (s.setPin i r).noticeSet k = s.noticeSet k := rfl

/-! ### setPort -/

@[simp] theorem State.setPort_timebase (p : Nat) (r : Port) : (s.setPort p r).timebase = s.timebase := rfl
@[simp] theorem State.setPort_nextAging (p : Nat) (r : Port) : (s.setPort p r).nextAging = s.nextAging := rfl
@[simp] theorem State.setPort_clock (p : Nat) (r : Port) : (s.setPort p r).clock = s.clock := rfl
@[simp] theorem State.setPort_tenants (p : Nat) (r : Port) : (s.setPort p r).tenants = s.tenants := rfl
@[simp] theorem State.setPort_profiles (p : Nat) (r : Port) : (s.setPort p r).profiles = s.profiles := rfl
@[simp] theorem State.setPort_stations (p : Nat) (r : Port) : (s.setPort p r).stations = s.stations := rfl
@[simp] theorem State.setPort_agingInterval (p : Nat) (r : Port) : (s.setPort p r).agingInterval = s.agingInterval := rfl
@[simp] theorem State.setPort_pinExpiry (p : Nat) (r : Port) : (s.setPort p r).pinExpiry = s.pinExpiry := rfl
@[simp] theorem State.setPort_pathSets (p : Nat) (r : Port) : (s.setPort p r).pathSets = s.pathSets := rfl
@[simp] theorem State.setPort_pins (p : Nat) (r : Port) : (s.setPort p r).pins = s.pins := rfl
@[simp] theorem State.setPort_freeCount (p : Nat) (r : Port) : (s.setPort p r).freeCount = s.freeCount := rfl
@[simp] theorem State.setPort_policies (p : Nat) (r : Port) : (s.setPort p r).policies = s.policies := rfl
@[simp] theorem State.setPort_pauseSettings (p : Nat) (r : Port) : (s.setPort p r).pauseSettings = s.pauseSettings := rfl
@[simp] theorem State.setPort_linkSettings (p : Nat) (r : Port) : (s.setPort p r).linkSettings = s.linkSettings := rfl
@[simp] theorem State.setPort_jobs (p : Nat) (r : Port) : (s.setPort p r).jobs = s.jobs := rfl
@[simp] theorem State.setPort_pass (p : Nat) (r : Port) : (s.setPort p r).pass = s.pass := rfl
@[simp] theorem State.setPort_postingArea (p : Nat) (r : Port) : (s.setPort p r).postingArea = s.postingArea := rfl
@[simp] theorem State.setPort_requests (p : Nat) (r : Port) : (s.setPort p r).requests = s.requests := rfl
@[simp] theorem State.setPort_execution (p : Nat) (r : Port) : (s.setPort p r).execution = s.execution := rfl
@[simp] theorem State.setPort_replies (p : Nat) (r : Port) : (s.setPort p r).replies = s.replies := rfl
@[simp] theorem State.setPort_overrun (p : Nat) (r : Port) : (s.setPort p r).overrun = s.overrun := rfl
@[simp] theorem State.setPort_notices (p : Nat) (r : Port) : (s.setPort p r).notices = s.notices := rfl
@[simp] theorem State.setPort_masks (p : Nat) (r : Port) : (s.setPort p r).masks = s.masks := rfl
@[simp] theorem State.setPort_inFlight (p : Nat) (r : Port) : (s.setPort p r).inFlight = s.inFlight := rfl
@[simp] theorem State.setPort_interruptsSent (p : Nat) (r : Port) : (s.setPort p r).interruptsSent = s.interruptsSent := rfl
@[simp] theorem State.setPort_draws (p : Nat) (r : Port) : (s.setPort p r).draws = s.draws := rfl
@[simp] theorem State.setPort_pending (p : Nat) (r : Port) : (s.setPort p r).pending = s.pending := rfl
@[simp] theorem State.setPort_tenant (p : Nat) (r : Port) (u : Nat) : (s.setPort p r).tenant u = s.tenant u := rfl
@[simp] theorem State.setPort_profile (p : Nat) (r : Port) (n : Nat) : (s.setPort p r).profile n = s.profile n := rfl
@[simp] theorem State.setPort_station (p : Nat) (r : Port) (j : Nat) : (s.setPort p r).station j = s.station j := rfl
@[simp] theorem State.setPort_pathSet (p : Nat) (r : Port) (n : Nat) : (s.setPort p r).pathSet n = s.pathSet n := rfl
@[simp] theorem State.setPort_pin (p : Nat) (r : Port) (j : Nat) : (s.setPort p r).pin j = s.pin j := rfl
@[simp] theorem State.setPort_noticeSet (p : Nat) (r : Port) (k : NoticeKind) : (s.setPort p r).noticeSet k = s.noticeSet k := rfl

/-! ### setNotices -/

@[simp] theorem State.setNotices_timebase (i : NoticeKind) (l : NatSet) : (s.setNotices i l).timebase = s.timebase := rfl
@[simp] theorem State.setNotices_nextAging (i : NoticeKind) (l : NatSet) : (s.setNotices i l).nextAging = s.nextAging := rfl
@[simp] theorem State.setNotices_clock (i : NoticeKind) (l : NatSet) : (s.setNotices i l).clock = s.clock := rfl
@[simp] theorem State.setNotices_tenants (i : NoticeKind) (l : NatSet) : (s.setNotices i l).tenants = s.tenants := rfl
@[simp] theorem State.setNotices_profiles (i : NoticeKind) (l : NatSet) : (s.setNotices i l).profiles = s.profiles := rfl
@[simp] theorem State.setNotices_stations (i : NoticeKind) (l : NatSet) : (s.setNotices i l).stations = s.stations := rfl
@[simp] theorem State.setNotices_agingInterval (i : NoticeKind) (l : NatSet) : (s.setNotices i l).agingInterval = s.agingInterval := rfl
@[simp] theorem State.setNotices_pinExpiry (i : NoticeKind) (l : NatSet) : (s.setNotices i l).pinExpiry = s.pinExpiry := rfl
@[simp] theorem State.setNotices_pathSets (i : NoticeKind) (l : NatSet) : (s.setNotices i l).pathSets = s.pathSets := rfl
@[simp] theorem State.setNotices_pins (i : NoticeKind) (l : NatSet) : (s.setNotices i l).pins = s.pins := rfl
@[simp] theorem State.setNotices_ports (i : NoticeKind) (l : NatSet) : (s.setNotices i l).ports = s.ports := rfl
@[simp] theorem State.setNotices_freeCount (i : NoticeKind) (l : NatSet) : (s.setNotices i l).freeCount = s.freeCount := rfl
@[simp] theorem State.setNotices_policies (i : NoticeKind) (l : NatSet) : (s.setNotices i l).policies = s.policies := rfl
@[simp] theorem State.setNotices_pauseSettings (i : NoticeKind) (l : NatSet) : (s.setNotices i l).pauseSettings = s.pauseSettings := rfl
@[simp] theorem State.setNotices_linkSettings (i : NoticeKind) (l : NatSet) : (s.setNotices i l).linkSettings = s.linkSettings := rfl
@[simp] theorem State.setNotices_jobs (i : NoticeKind) (l : NatSet) : (s.setNotices i l).jobs = s.jobs := rfl
@[simp] theorem State.setNotices_pass (i : NoticeKind) (l : NatSet) : (s.setNotices i l).pass = s.pass := rfl
@[simp] theorem State.setNotices_postingArea (i : NoticeKind) (l : NatSet) : (s.setNotices i l).postingArea = s.postingArea := rfl
@[simp] theorem State.setNotices_requests (i : NoticeKind) (l : NatSet) : (s.setNotices i l).requests = s.requests := rfl
@[simp] theorem State.setNotices_execution (i : NoticeKind) (l : NatSet) : (s.setNotices i l).execution = s.execution := rfl
@[simp] theorem State.setNotices_replies (i : NoticeKind) (l : NatSet) : (s.setNotices i l).replies = s.replies := rfl
@[simp] theorem State.setNotices_overrun (i : NoticeKind) (l : NatSet) : (s.setNotices i l).overrun = s.overrun := rfl
@[simp] theorem State.setNotices_masks (i : NoticeKind) (l : NatSet) : (s.setNotices i l).masks = s.masks := rfl
@[simp] theorem State.setNotices_inFlight (i : NoticeKind) (l : NatSet) : (s.setNotices i l).inFlight = s.inFlight := rfl
@[simp] theorem State.setNotices_interruptsSent (i : NoticeKind) (l : NatSet) : (s.setNotices i l).interruptsSent = s.interruptsSent := rfl
@[simp] theorem State.setNotices_draws (i : NoticeKind) (l : NatSet) : (s.setNotices i l).draws = s.draws := rfl
@[simp] theorem State.setNotices_pending (i : NoticeKind) (l : NatSet) : (s.setNotices i l).pending = s.pending := rfl
@[simp] theorem State.setNotices_tenant (i : NoticeKind) (l : NatSet) (u : Nat) : (s.setNotices i l).tenant u = s.tenant u := rfl
@[simp] theorem State.setNotices_profile (i : NoticeKind) (l : NatSet) (n : Nat) : (s.setNotices i l).profile n = s.profile n := rfl
@[simp] theorem State.setNotices_station (i : NoticeKind) (l : NatSet) (j : Nat) : (s.setNotices i l).station j = s.station j := rfl
@[simp] theorem State.setNotices_pathSet (i : NoticeKind) (l : NatSet) (n : Nat) : (s.setNotices i l).pathSet n = s.pathSet n := rfl
@[simp] theorem State.setNotices_pin (i : NoticeKind) (l : NatSet) (j : Nat) : (s.setNotices i l).pin j = s.pin j := rfl
@[simp] theorem State.setNotices_port (i : NoticeKind) (l : NatSet) (q : Nat) : (s.setNotices i l).port q = s.port q := rfl

/-! ### dropNext -/

@[simp] theorem State.dropNext_timebase (i : Nat) : (s.dropNext i).timebase = s.timebase := rfl
@[simp] theorem State.dropNext_nextAging (i : Nat) : (s.dropNext i).nextAging = s.nextAging := rfl
@[simp] theorem State.dropNext_clock (i : Nat) : (s.dropNext i).clock = s.clock := rfl
@[simp] theorem State.dropNext_tenants (i : Nat) : (s.dropNext i).tenants = s.tenants := rfl
@[simp] theorem State.dropNext_profiles (i : Nat) : (s.dropNext i).profiles = s.profiles := rfl
@[simp] theorem State.dropNext_stations (i : Nat) : (s.dropNext i).stations = s.stations := rfl
@[simp] theorem State.dropNext_agingInterval (i : Nat) : (s.dropNext i).agingInterval = s.agingInterval := rfl
@[simp] theorem State.dropNext_pinExpiry (i : Nat) : (s.dropNext i).pinExpiry = s.pinExpiry := rfl
@[simp] theorem State.dropNext_pathSets (i : Nat) : (s.dropNext i).pathSets = s.pathSets := rfl
@[simp] theorem State.dropNext_pins (i : Nat) : (s.dropNext i).pins = s.pins := rfl
@[simp] theorem State.dropNext_ports (i : Nat) : (s.dropNext i).ports = s.ports := rfl
@[simp] theorem State.dropNext_freeCount (i : Nat) : (s.dropNext i).freeCount = s.freeCount := rfl
@[simp] theorem State.dropNext_policies (i : Nat) : (s.dropNext i).policies = s.policies := rfl
@[simp] theorem State.dropNext_pauseSettings (i : Nat) : (s.dropNext i).pauseSettings = s.pauseSettings := rfl
@[simp] theorem State.dropNext_linkSettings (i : Nat) : (s.dropNext i).linkSettings = s.linkSettings := rfl
@[simp] theorem State.dropNext_jobs (i : Nat) : (s.dropNext i).jobs = s.jobs := rfl
@[simp] theorem State.dropNext_pass (i : Nat) : (s.dropNext i).pass = s.pass := rfl
@[simp] theorem State.dropNext_postingArea (i : Nat) : (s.dropNext i).postingArea = s.postingArea := rfl
@[simp] theorem State.dropNext_requests (i : Nat) : (s.dropNext i).requests = s.requests := rfl
@[simp] theorem State.dropNext_execution (i : Nat) : (s.dropNext i).execution = s.execution := rfl
@[simp] theorem State.dropNext_replies (i : Nat) : (s.dropNext i).replies = s.replies := rfl
@[simp] theorem State.dropNext_overrun (i : Nat) : (s.dropNext i).overrun = s.overrun := rfl
@[simp] theorem State.dropNext_notices (i : Nat) : (s.dropNext i).notices = s.notices := rfl
@[simp] theorem State.dropNext_masks (i : Nat) : (s.dropNext i).masks = s.masks := rfl
@[simp] theorem State.dropNext_interruptsSent (i : Nat) : (s.dropNext i).interruptsSent = s.interruptsSent := rfl
@[simp] theorem State.dropNext_draws (i : Nat) : (s.dropNext i).draws = s.draws := rfl
@[simp] theorem State.dropNext_pending (i : Nat) : (s.dropNext i).pending = s.pending := rfl
@[simp] theorem State.dropNext_tenant (i : Nat) (u : Nat) : (s.dropNext i).tenant u = s.tenant u := rfl
@[simp] theorem State.dropNext_profile (i : Nat) (n : Nat) : (s.dropNext i).profile n = s.profile n := rfl
@[simp] theorem State.dropNext_station (i : Nat) (j : Nat) : (s.dropNext i).station j = s.station j := rfl
@[simp] theorem State.dropNext_pathSet (i : Nat) (n : Nat) : (s.dropNext i).pathSet n = s.pathSet n := rfl
@[simp] theorem State.dropNext_pin (i : Nat) (j : Nat) : (s.dropNext i).pin j = s.pin j := rfl
@[simp] theorem State.dropNext_port (i : Nat) (q : Nat) : (s.dropNext i).port q = s.port q := rfl
@[simp] theorem State.dropNext_noticeSet (i : Nat) (k : NoticeKind) : (s.dropNext i).noticeSet k = s.noticeSet k := rfl

/-! ### handOver -/

@[simp] theorem State.handOver_timebase (i : Nat) (v : Fin 8) : (s.handOver i v).timebase = s.timebase := rfl
@[simp] theorem State.handOver_nextAging (i : Nat) (v : Fin 8) : (s.handOver i v).nextAging = s.nextAging := rfl
@[simp] theorem State.handOver_clock (i : Nat) (v : Fin 8) : (s.handOver i v).clock = s.clock := rfl
@[simp] theorem State.handOver_tenants (i : Nat) (v : Fin 8) : (s.handOver i v).tenants = s.tenants := rfl
@[simp] theorem State.handOver_profiles (i : Nat) (v : Fin 8) : (s.handOver i v).profiles = s.profiles := rfl
@[simp] theorem State.handOver_stations (i : Nat) (v : Fin 8) : (s.handOver i v).stations = s.stations := rfl
@[simp] theorem State.handOver_agingInterval (i : Nat) (v : Fin 8) : (s.handOver i v).agingInterval = s.agingInterval := rfl
@[simp] theorem State.handOver_pinExpiry (i : Nat) (v : Fin 8) : (s.handOver i v).pinExpiry = s.pinExpiry := rfl
@[simp] theorem State.handOver_pathSets (i : Nat) (v : Fin 8) : (s.handOver i v).pathSets = s.pathSets := rfl
@[simp] theorem State.handOver_pins (i : Nat) (v : Fin 8) : (s.handOver i v).pins = s.pins := rfl
@[simp] theorem State.handOver_ports (i : Nat) (v : Fin 8) : (s.handOver i v).ports = s.ports := rfl
@[simp] theorem State.handOver_freeCount (i : Nat) (v : Fin 8) : (s.handOver i v).freeCount = s.freeCount := rfl
@[simp] theorem State.handOver_policies (i : Nat) (v : Fin 8) : (s.handOver i v).policies = s.policies := rfl
@[simp] theorem State.handOver_pauseSettings (i : Nat) (v : Fin 8) : (s.handOver i v).pauseSettings = s.pauseSettings := rfl
@[simp] theorem State.handOver_linkSettings (i : Nat) (v : Fin 8) : (s.handOver i v).linkSettings = s.linkSettings := rfl
@[simp] theorem State.handOver_jobs (i : Nat) (v : Fin 8) : (s.handOver i v).jobs = s.jobs := rfl
@[simp] theorem State.handOver_pass (i : Nat) (v : Fin 8) : (s.handOver i v).pass = s.pass := rfl
@[simp] theorem State.handOver_postingArea (i : Nat) (v : Fin 8) : (s.handOver i v).postingArea = s.postingArea := rfl
@[simp] theorem State.handOver_requests (i : Nat) (v : Fin 8) : (s.handOver i v).requests = s.requests := rfl
@[simp] theorem State.handOver_execution (i : Nat) (v : Fin 8) : (s.handOver i v).execution = s.execution := rfl
@[simp] theorem State.handOver_replies (i : Nat) (v : Fin 8) : (s.handOver i v).replies = s.replies := rfl
@[simp] theorem State.handOver_overrun (i : Nat) (v : Fin 8) : (s.handOver i v).overrun = s.overrun := rfl
@[simp] theorem State.handOver_notices (i : Nat) (v : Fin 8) : (s.handOver i v).notices = s.notices := rfl
@[simp] theorem State.handOver_masks (i : Nat) (v : Fin 8) : (s.handOver i v).masks = s.masks := rfl
@[simp] theorem State.handOver_interruptsSent (i : Nat) (v : Fin 8) : (s.handOver i v).interruptsSent = s.interruptsSent := rfl
@[simp] theorem State.handOver_draws (i : Nat) (v : Fin 8) : (s.handOver i v).draws = s.draws := rfl
@[simp] theorem State.handOver_pending (i : Nat) (v : Fin 8) : (s.handOver i v).pending = s.pending := rfl
@[simp] theorem State.handOver_tenant (i : Nat) (v : Fin 8) (u : Nat) : (s.handOver i v).tenant u = s.tenant u := rfl
@[simp] theorem State.handOver_profile (i : Nat) (v : Fin 8) (n : Nat) : (s.handOver i v).profile n = s.profile n := rfl
@[simp] theorem State.handOver_station (i : Nat) (v : Fin 8) (j : Nat) : (s.handOver i v).station j = s.station j := rfl
@[simp] theorem State.handOver_pathSet (i : Nat) (v : Fin 8) (n : Nat) : (s.handOver i v).pathSet n = s.pathSet n := rfl
@[simp] theorem State.handOver_pin (i : Nat) (v : Fin 8) (j : Nat) : (s.handOver i v).pin j = s.pin j := rfl
@[simp] theorem State.handOver_port (i : Nat) (v : Fin 8) (q : Nat) : (s.handOver i v).port q = s.port q := rfl
@[simp] theorem State.handOver_noticeSet (i : Nat) (v : Fin 8) (k : NoticeKind) : (s.handOver i v).noticeSet k = s.noticeSet k := rfl

/-! ### postAging -/

@[simp] theorem postAging_timebase : (postAging s).timebase = s.timebase := rfl
@[simp] theorem postAging_nextAging : (postAging s).nextAging = s.nextAging := rfl
@[simp] theorem postAging_clock : (postAging s).clock = s.clock := rfl
@[simp] theorem postAging_tenants : (postAging s).tenants = s.tenants := rfl
@[simp] theorem postAging_profiles : (postAging s).profiles = s.profiles := rfl
@[simp] theorem postAging_stations : (postAging s).stations = s.stations := rfl
@[simp] theorem postAging_agingInterval : (postAging s).agingInterval = s.agingInterval := rfl
@[simp] theorem postAging_pinExpiry : (postAging s).pinExpiry = s.pinExpiry := rfl
@[simp] theorem postAging_pathSets : (postAging s).pathSets = s.pathSets := rfl
@[simp] theorem postAging_pins : (postAging s).pins = s.pins := rfl
@[simp] theorem postAging_ports : (postAging s).ports = s.ports := rfl
@[simp] theorem postAging_freeCount : (postAging s).freeCount = s.freeCount := rfl
@[simp] theorem postAging_policies : (postAging s).policies = s.policies := rfl
@[simp] theorem postAging_pauseSettings : (postAging s).pauseSettings = s.pauseSettings := rfl
@[simp] theorem postAging_linkSettings : (postAging s).linkSettings = s.linkSettings := rfl
@[simp] theorem postAging_pass : (postAging s).pass = s.pass := rfl
@[simp] theorem postAging_postingArea : (postAging s).postingArea = s.postingArea := rfl
@[simp] theorem postAging_requests : (postAging s).requests = s.requests := rfl
@[simp] theorem postAging_execution : (postAging s).execution = s.execution := rfl
@[simp] theorem postAging_replies : (postAging s).replies = s.replies := rfl
@[simp] theorem postAging_overrun : (postAging s).overrun = s.overrun := rfl
@[simp] theorem postAging_notices : (postAging s).notices = s.notices := rfl
@[simp] theorem postAging_masks : (postAging s).masks = s.masks := rfl
@[simp] theorem postAging_inFlight : (postAging s).inFlight = s.inFlight := rfl
@[simp] theorem postAging_interruptsSent : (postAging s).interruptsSent = s.interruptsSent := rfl
@[simp] theorem postAging_draws : (postAging s).draws = s.draws := rfl
@[simp] theorem postAging_pending : (postAging s).pending = s.pending := rfl
@[simp] theorem postAging_tenant (u : Nat) : (postAging s).tenant u = s.tenant u := rfl
@[simp] theorem postAging_profile (n : Nat) : (postAging s).profile n = s.profile n := rfl
@[simp] theorem postAging_station (j : Nat) : (postAging s).station j = s.station j := rfl
@[simp] theorem postAging_pathSet (n : Nat) : (postAging s).pathSet n = s.pathSet n := rfl
@[simp] theorem postAging_pin (j : Nat) : (postAging s).pin j = s.pin j := rfl
@[simp] theorem postAging_port (q : Nat) : (postAging s).port q = s.port q := rfl
@[simp] theorem postAging_noticeSet (k : NoticeKind) : (postAging s).noticeSet k = s.noticeSet k := rfl

/-! ### postFlush -/

@[simp] theorem postFlush_timebase (p : Nat) : (postFlush p s).timebase = s.timebase := rfl
@[simp] theorem postFlush_nextAging (p : Nat) : (postFlush p s).nextAging = s.nextAging := rfl
@[simp] theorem postFlush_clock (p : Nat) : (postFlush p s).clock = s.clock := rfl
@[simp] theorem postFlush_tenants (p : Nat) : (postFlush p s).tenants = s.tenants := rfl
@[simp] theorem postFlush_profiles (p : Nat) : (postFlush p s).profiles = s.profiles := rfl
@[simp] theorem postFlush_stations (p : Nat) : (postFlush p s).stations = s.stations := rfl
@[simp] theorem postFlush_agingInterval (p : Nat) : (postFlush p s).agingInterval = s.agingInterval := rfl
@[simp] theorem postFlush_pinExpiry (p : Nat) : (postFlush p s).pinExpiry = s.pinExpiry := rfl
@[simp] theorem postFlush_pathSets (p : Nat) : (postFlush p s).pathSets = s.pathSets := rfl
@[simp] theorem postFlush_pins (p : Nat) : (postFlush p s).pins = s.pins := rfl
@[simp] theorem postFlush_ports (p : Nat) : (postFlush p s).ports = s.ports := rfl
@[simp] theorem postFlush_freeCount (p : Nat) : (postFlush p s).freeCount = s.freeCount := rfl
@[simp] theorem postFlush_policies (p : Nat) : (postFlush p s).policies = s.policies := rfl
@[simp] theorem postFlush_pauseSettings (p : Nat) : (postFlush p s).pauseSettings = s.pauseSettings := rfl
@[simp] theorem postFlush_linkSettings (p : Nat) : (postFlush p s).linkSettings = s.linkSettings := rfl
@[simp] theorem postFlush_pass (p : Nat) : (postFlush p s).pass = s.pass := rfl
@[simp] theorem postFlush_postingArea (p : Nat) : (postFlush p s).postingArea = s.postingArea := rfl
@[simp] theorem postFlush_requests (p : Nat) : (postFlush p s).requests = s.requests := rfl
@[simp] theorem postFlush_execution (p : Nat) : (postFlush p s).execution = s.execution := rfl
@[simp] theorem postFlush_replies (p : Nat) : (postFlush p s).replies = s.replies := rfl
@[simp] theorem postFlush_overrun (p : Nat) : (postFlush p s).overrun = s.overrun := rfl
@[simp] theorem postFlush_notices (p : Nat) : (postFlush p s).notices = s.notices := rfl
@[simp] theorem postFlush_masks (p : Nat) : (postFlush p s).masks = s.masks := rfl
@[simp] theorem postFlush_inFlight (p : Nat) : (postFlush p s).inFlight = s.inFlight := rfl
@[simp] theorem postFlush_interruptsSent (p : Nat) : (postFlush p s).interruptsSent = s.interruptsSent := rfl
@[simp] theorem postFlush_draws (p : Nat) : (postFlush p s).draws = s.draws := rfl
@[simp] theorem postFlush_pending (p : Nat) : (postFlush p s).pending = s.pending := rfl
@[simp] theorem postFlush_tenant (p : Nat) (u : Nat) : (postFlush p s).tenant u = s.tenant u := rfl
@[simp] theorem postFlush_profile (p : Nat) (n : Nat) : (postFlush p s).profile n = s.profile n := rfl
@[simp] theorem postFlush_station (p : Nat) (j : Nat) : (postFlush p s).station j = s.station j := rfl
@[simp] theorem postFlush_pathSet (p : Nat) (n : Nat) : (postFlush p s).pathSet n = s.pathSet n := rfl
@[simp] theorem postFlush_pin (p : Nat) (j : Nat) : (postFlush p s).pin j = s.pin j := rfl
@[simp] theorem postFlush_port (p : Nat) (q : Nat) : (postFlush p s).port q = s.port q := rfl
@[simp] theorem postFlush_noticeSet (p : Nat) (k : NoticeKind) : (postFlush p s).noticeSet k = s.noticeSet k := rfl

/-! ### postPurge -/

@[simp] theorem postPurge_timebase (t : Nat) : (postPurge t s).timebase = s.timebase := rfl
@[simp] theorem postPurge_nextAging (t : Nat) : (postPurge t s).nextAging = s.nextAging := rfl
@[simp] theorem postPurge_clock (t : Nat) : (postPurge t s).clock = s.clock := rfl
@[simp] theorem postPurge_tenants (t : Nat) : (postPurge t s).tenants = s.tenants := rfl
@[simp] theorem postPurge_profiles (t : Nat) : (postPurge t s).profiles = s.profiles := rfl
@[simp] theorem postPurge_stations (t : Nat) : (postPurge t s).stations = s.stations := rfl
@[simp] theorem postPurge_agingInterval (t : Nat) : (postPurge t s).agingInterval = s.agingInterval := rfl
@[simp] theorem postPurge_pinExpiry (t : Nat) : (postPurge t s).pinExpiry = s.pinExpiry := rfl
@[simp] theorem postPurge_pathSets (t : Nat) : (postPurge t s).pathSets = s.pathSets := rfl
@[simp] theorem postPurge_pins (t : Nat) : (postPurge t s).pins = s.pins := rfl
@[simp] theorem postPurge_ports (t : Nat) : (postPurge t s).ports = s.ports := rfl
@[simp] theorem postPurge_freeCount (t : Nat) : (postPurge t s).freeCount = s.freeCount := rfl
@[simp] theorem postPurge_policies (t : Nat) : (postPurge t s).policies = s.policies := rfl
@[simp] theorem postPurge_pauseSettings (t : Nat) : (postPurge t s).pauseSettings = s.pauseSettings := rfl
@[simp] theorem postPurge_linkSettings (t : Nat) : (postPurge t s).linkSettings = s.linkSettings := rfl
@[simp] theorem postPurge_pass (t : Nat) : (postPurge t s).pass = s.pass := rfl
@[simp] theorem postPurge_postingArea (t : Nat) : (postPurge t s).postingArea = s.postingArea := rfl
@[simp] theorem postPurge_requests (t : Nat) : (postPurge t s).requests = s.requests := rfl
@[simp] theorem postPurge_execution (t : Nat) : (postPurge t s).execution = s.execution := rfl
@[simp] theorem postPurge_replies (t : Nat) : (postPurge t s).replies = s.replies := rfl
@[simp] theorem postPurge_overrun (t : Nat) : (postPurge t s).overrun = s.overrun := rfl
@[simp] theorem postPurge_notices (t : Nat) : (postPurge t s).notices = s.notices := rfl
@[simp] theorem postPurge_masks (t : Nat) : (postPurge t s).masks = s.masks := rfl
@[simp] theorem postPurge_inFlight (t : Nat) : (postPurge t s).inFlight = s.inFlight := rfl
@[simp] theorem postPurge_interruptsSent (t : Nat) : (postPurge t s).interruptsSent = s.interruptsSent := rfl
@[simp] theorem postPurge_draws (t : Nat) : (postPurge t s).draws = s.draws := rfl
@[simp] theorem postPurge_pending (t : Nat) : (postPurge t s).pending = s.pending := rfl
@[simp] theorem postPurge_tenant (t : Nat) (u : Nat) : (postPurge t s).tenant u = s.tenant u := rfl
@[simp] theorem postPurge_profile (t : Nat) (n : Nat) : (postPurge t s).profile n = s.profile n := rfl
@[simp] theorem postPurge_station (t : Nat) (j : Nat) : (postPurge t s).station j = s.station j := rfl
@[simp] theorem postPurge_pathSet (t : Nat) (n : Nat) : (postPurge t s).pathSet n = s.pathSet n := rfl
@[simp] theorem postPurge_pin (t : Nat) (j : Nat) : (postPurge t s).pin j = s.pin j := rfl
@[simp] theorem postPurge_port (t : Nat) (q : Nat) : (postPurge t s).port q = s.port q := rfl
@[simp] theorem postPurge_noticeSet (t : Nat) (k : NoticeKind) : (postPurge t s).noticeSet k = s.noticeSet k := rfl

/-! ### postRebalance -/

@[simp] theorem postRebalance_timebase (i : Nat) : (postRebalance i s).timebase = s.timebase := rfl
@[simp] theorem postRebalance_nextAging (i : Nat) : (postRebalance i s).nextAging = s.nextAging := rfl
@[simp] theorem postRebalance_clock (i : Nat) : (postRebalance i s).clock = s.clock := rfl
@[simp] theorem postRebalance_tenants (i : Nat) : (postRebalance i s).tenants = s.tenants := rfl
@[simp] theorem postRebalance_profiles (i : Nat) : (postRebalance i s).profiles = s.profiles := rfl
@[simp] theorem postRebalance_stations (i : Nat) : (postRebalance i s).stations = s.stations := rfl
@[simp] theorem postRebalance_agingInterval (i : Nat) : (postRebalance i s).agingInterval = s.agingInterval := rfl
@[simp] theorem postRebalance_pinExpiry (i : Nat) : (postRebalance i s).pinExpiry = s.pinExpiry := rfl
@[simp] theorem postRebalance_pathSets (i : Nat) : (postRebalance i s).pathSets = s.pathSets := rfl
@[simp] theorem postRebalance_pins (i : Nat) : (postRebalance i s).pins = s.pins := rfl
@[simp] theorem postRebalance_ports (i : Nat) : (postRebalance i s).ports = s.ports := rfl
@[simp] theorem postRebalance_freeCount (i : Nat) : (postRebalance i s).freeCount = s.freeCount := rfl
@[simp] theorem postRebalance_policies (i : Nat) : (postRebalance i s).policies = s.policies := rfl
@[simp] theorem postRebalance_pauseSettings (i : Nat) : (postRebalance i s).pauseSettings = s.pauseSettings := rfl
@[simp] theorem postRebalance_linkSettings (i : Nat) : (postRebalance i s).linkSettings = s.linkSettings := rfl
@[simp] theorem postRebalance_pass (i : Nat) : (postRebalance i s).pass = s.pass := rfl
@[simp] theorem postRebalance_postingArea (i : Nat) : (postRebalance i s).postingArea = s.postingArea := rfl
@[simp] theorem postRebalance_requests (i : Nat) : (postRebalance i s).requests = s.requests := rfl
@[simp] theorem postRebalance_execution (i : Nat) : (postRebalance i s).execution = s.execution := rfl
@[simp] theorem postRebalance_replies (i : Nat) : (postRebalance i s).replies = s.replies := rfl
@[simp] theorem postRebalance_overrun (i : Nat) : (postRebalance i s).overrun = s.overrun := rfl
@[simp] theorem postRebalance_notices (i : Nat) : (postRebalance i s).notices = s.notices := rfl
@[simp] theorem postRebalance_masks (i : Nat) : (postRebalance i s).masks = s.masks := rfl
@[simp] theorem postRebalance_inFlight (i : Nat) : (postRebalance i s).inFlight = s.inFlight := rfl
@[simp] theorem postRebalance_interruptsSent (i : Nat) : (postRebalance i s).interruptsSent = s.interruptsSent := rfl
@[simp] theorem postRebalance_draws (i : Nat) : (postRebalance i s).draws = s.draws := rfl
@[simp] theorem postRebalance_pending (i : Nat) : (postRebalance i s).pending = s.pending := rfl
@[simp] theorem postRebalance_tenant (i : Nat) (u : Nat) : (postRebalance i s).tenant u = s.tenant u := rfl
@[simp] theorem postRebalance_profile (i : Nat) (n : Nat) : (postRebalance i s).profile n = s.profile n := rfl
@[simp] theorem postRebalance_station (i : Nat) (j : Nat) : (postRebalance i s).station j = s.station j := rfl
@[simp] theorem postRebalance_pathSet (i : Nat) (n : Nat) : (postRebalance i s).pathSet n = s.pathSet n := rfl
@[simp] theorem postRebalance_pin (i : Nat) (j : Nat) : (postRebalance i s).pin j = s.pin j := rfl
@[simp] theorem postRebalance_port (i : Nat) (q : Nat) : (postRebalance i s).port q = s.port q := rfl
@[simp] theorem postRebalance_noticeSet (i : Nat) (k : NoticeKind) : (postRebalance i s).noticeSet k = s.noticeSet k := rfl

/-! ### returnCells -/

@[simp] theorem returnCells_timebase (f : QFrame) : (returnCells f s).timebase = s.timebase := rfl
@[simp] theorem returnCells_nextAging (f : QFrame) : (returnCells f s).nextAging = s.nextAging := rfl
@[simp] theorem returnCells_clock (f : QFrame) : (returnCells f s).clock = s.clock := rfl
@[simp] theorem returnCells_tenants (f : QFrame) : (returnCells f s).tenants = s.tenants := rfl
@[simp] theorem returnCells_profiles (f : QFrame) : (returnCells f s).profiles = s.profiles := rfl
@[simp] theorem returnCells_stations (f : QFrame) : (returnCells f s).stations = s.stations := rfl
@[simp] theorem returnCells_agingInterval (f : QFrame) : (returnCells f s).agingInterval = s.agingInterval := rfl
@[simp] theorem returnCells_pinExpiry (f : QFrame) : (returnCells f s).pinExpiry = s.pinExpiry := rfl
@[simp] theorem returnCells_pathSets (f : QFrame) : (returnCells f s).pathSets = s.pathSets := rfl
@[simp] theorem returnCells_pins (f : QFrame) : (returnCells f s).pins = s.pins := rfl
@[simp] theorem returnCells_ports (f : QFrame) : (returnCells f s).ports = s.ports := rfl
@[simp] theorem returnCells_policies (f : QFrame) : (returnCells f s).policies = s.policies := rfl
@[simp] theorem returnCells_pauseSettings (f : QFrame) : (returnCells f s).pauseSettings = s.pauseSettings := rfl
@[simp] theorem returnCells_linkSettings (f : QFrame) : (returnCells f s).linkSettings = s.linkSettings := rfl
@[simp] theorem returnCells_jobs (f : QFrame) : (returnCells f s).jobs = s.jobs := rfl
@[simp] theorem returnCells_pass (f : QFrame) : (returnCells f s).pass = s.pass := rfl
@[simp] theorem returnCells_postingArea (f : QFrame) : (returnCells f s).postingArea = s.postingArea := rfl
@[simp] theorem returnCells_requests (f : QFrame) : (returnCells f s).requests = s.requests := rfl
@[simp] theorem returnCells_execution (f : QFrame) : (returnCells f s).execution = s.execution := rfl
@[simp] theorem returnCells_replies (f : QFrame) : (returnCells f s).replies = s.replies := rfl
@[simp] theorem returnCells_overrun (f : QFrame) : (returnCells f s).overrun = s.overrun := rfl
@[simp] theorem returnCells_notices (f : QFrame) : (returnCells f s).notices = s.notices := rfl
@[simp] theorem returnCells_masks (f : QFrame) : (returnCells f s).masks = s.masks := rfl
@[simp] theorem returnCells_inFlight (f : QFrame) : (returnCells f s).inFlight = s.inFlight := rfl
@[simp] theorem returnCells_interruptsSent (f : QFrame) : (returnCells f s).interruptsSent = s.interruptsSent := rfl
@[simp] theorem returnCells_draws (f : QFrame) : (returnCells f s).draws = s.draws := rfl
@[simp] theorem returnCells_pending (f : QFrame) : (returnCells f s).pending = s.pending := rfl
@[simp] theorem returnCells_tenant (f : QFrame) (u : Nat) : (returnCells f s).tenant u = s.tenant u := rfl
@[simp] theorem returnCells_profile (f : QFrame) (n : Nat) : (returnCells f s).profile n = s.profile n := rfl
@[simp] theorem returnCells_station (f : QFrame) (j : Nat) : (returnCells f s).station j = s.station j := rfl
@[simp] theorem returnCells_pathSet (f : QFrame) (n : Nat) : (returnCells f s).pathSet n = s.pathSet n := rfl
@[simp] theorem returnCells_pin (f : QFrame) (j : Nat) : (returnCells f s).pin j = s.pin j := rfl
@[simp] theorem returnCells_port (f : QFrame) (q : Nat) : (returnCells f s).port q = s.port q := rfl
@[simp] theorem returnCells_noticeSet (f : QFrame) (k : NoticeKind) : (returnCells f s).noticeSet k = s.noticeSet k := rfl

/-! ### pend -/

theorem sendInterrupt_eq (a b : State) :
    sendInterrupt a b = { b with interruptsSent :=
      b.interruptsSent + (!a.interruptCondition && b.interruptCondition).toNat } := by
  unfold sendInterrupt
  cases h : (!a.interruptCondition && b.interruptCondition) <;> simp

/-- What pending a notice can do: the pending sets and the messages sent, and nothing else. -/
theorem pend_eq (k : NoticeKind) (x : Nat) :
    pend k x s = { s with
      notices := tableSet [] s.notices k.number (setInsert (s.noticeSet k) x)
      interruptsSent := s.interruptsSent + (!s.interruptCondition
        && (s.setNotices k (setInsert (s.noticeSet k) x)).interruptCondition).toNat } := by
  rw [pend, sendInterrupt_eq]; rfl

@[simp] theorem pend_timebase (k : NoticeKind) (x : Nat) : (pend k x s).timebase = s.timebase := by rw [pend_eq]
@[simp] theorem pend_nextAging (k : NoticeKind) (x : Nat) : (pend k x s).nextAging = s.nextAging := by rw [pend_eq]
@[simp] theorem pend_clock (k : NoticeKind) (x : Nat) : (pend k x s).clock = s.clock := by rw [pend_eq]
@[simp] theorem pend_tenants (k : NoticeKind) (x : Nat) : (pend k x s).tenants = s.tenants := by rw [pend_eq]
@[simp] theorem pend_profiles (k : NoticeKind) (x : Nat) : (pend k x s).profiles = s.profiles := by rw [pend_eq]
@[simp] theorem pend_stations (k : NoticeKind) (x : Nat) : (pend k x s).stations = s.stations := by rw [pend_eq]
@[simp] theorem pend_agingInterval (k : NoticeKind) (x : Nat) : (pend k x s).agingInterval = s.agingInterval := by rw [pend_eq]
@[simp] theorem pend_pinExpiry (k : NoticeKind) (x : Nat) : (pend k x s).pinExpiry = s.pinExpiry := by rw [pend_eq]
@[simp] theorem pend_pathSets (k : NoticeKind) (x : Nat) : (pend k x s).pathSets = s.pathSets := by rw [pend_eq]
@[simp] theorem pend_pins (k : NoticeKind) (x : Nat) : (pend k x s).pins = s.pins := by rw [pend_eq]
@[simp] theorem pend_ports (k : NoticeKind) (x : Nat) : (pend k x s).ports = s.ports := by rw [pend_eq]
@[simp] theorem pend_freeCount (k : NoticeKind) (x : Nat) : (pend k x s).freeCount = s.freeCount := by rw [pend_eq]
@[simp] theorem pend_policies (k : NoticeKind) (x : Nat) : (pend k x s).policies = s.policies := by rw [pend_eq]
@[simp] theorem pend_pauseSettings (k : NoticeKind) (x : Nat) : (pend k x s).pauseSettings = s.pauseSettings := by rw [pend_eq]
@[simp] theorem pend_linkSettings (k : NoticeKind) (x : Nat) : (pend k x s).linkSettings = s.linkSettings := by rw [pend_eq]
@[simp] theorem pend_jobs (k : NoticeKind) (x : Nat) : (pend k x s).jobs = s.jobs := by rw [pend_eq]
@[simp] theorem pend_pass (k : NoticeKind) (x : Nat) : (pend k x s).pass = s.pass := by rw [pend_eq]
@[simp] theorem pend_postingArea (k : NoticeKind) (x : Nat) : (pend k x s).postingArea = s.postingArea := by rw [pend_eq]
@[simp] theorem pend_requests (k : NoticeKind) (x : Nat) : (pend k x s).requests = s.requests := by rw [pend_eq]
@[simp] theorem pend_execution (k : NoticeKind) (x : Nat) : (pend k x s).execution = s.execution := by rw [pend_eq]
@[simp] theorem pend_replies (k : NoticeKind) (x : Nat) : (pend k x s).replies = s.replies := by rw [pend_eq]
@[simp] theorem pend_overrun (k : NoticeKind) (x : Nat) : (pend k x s).overrun = s.overrun := by rw [pend_eq]
@[simp] theorem pend_masks (k : NoticeKind) (x : Nat) : (pend k x s).masks = s.masks := by rw [pend_eq]
@[simp] theorem pend_inFlight (k : NoticeKind) (x : Nat) : (pend k x s).inFlight = s.inFlight := by rw [pend_eq]
@[simp] theorem pend_draws (k : NoticeKind) (x : Nat) : (pend k x s).draws = s.draws := by rw [pend_eq]
@[simp] theorem pend_pending (k : NoticeKind) (x : Nat) : (pend k x s).pending = s.pending := by rw [pend_eq]
@[simp] theorem pend_tenant (k : NoticeKind) (x : Nat) (u : Nat) : (pend k x s).tenant u = s.tenant u := by
  rw [pend_eq]; rfl
@[simp] theorem pend_profile (k : NoticeKind) (x : Nat) (n : Nat) : (pend k x s).profile n = s.profile n := by
  rw [pend_eq]; rfl
@[simp] theorem pend_station (k : NoticeKind) (x : Nat) (j : Nat) : (pend k x s).station j = s.station j := by
  rw [pend_eq]; rfl
@[simp] theorem pend_pathSet (k : NoticeKind) (x : Nat) (n : Nat) : (pend k x s).pathSet n = s.pathSet n := by
  rw [pend_eq]; rfl
@[simp] theorem pend_pin (k : NoticeKind) (x : Nat) (j : Nat) : (pend k x s).pin j = s.pin j := by
  rw [pend_eq]; rfl
@[simp] theorem pend_port (k : NoticeKind) (x : Nat) (q : Nat) : (pend k x s).port q = s.port q := by
  rw [pend_eq]; rfl

/-! ### Reading a record that was written -/

@[simp] theorem State.tenant_set (t u : Nat) (r : Tenant) :
    (s.setTenant t r).tenant u = if u = t then r else s.tenant u := tableGet_set ..
@[simp] theorem State.profile_set (i n : Nat) (r : Profile) :
    (s.setProfile i r).profile n = if n = i then r else s.profile n := tableGet_set ..
@[simp] theorem State.station_set (i j : Nat) (e : Option Entry) :
    (s.setStation i e).station j = if j = i then e else s.station j := tableGet_set ..
@[simp] theorem State.pathSet_set (i n : Nat) (r : PathSet) :
    (s.setPathSet i r).pathSet n = if n = i then r else s.pathSet n := tableGet_set ..
@[simp] theorem State.pin_set (i j : Nat) (r : Pin) :
    (s.setPin i r).pin j = if j = i then r else s.pin j := tableGet_set ..
@[simp] theorem State.port_set (p q : Nat) (r : Port) :
    (s.setPort p r).port q = if q = p then r else s.port q := tableGet_set ..

theorem NoticeKind.number_inj {j k : NoticeKind} : j.number = k.number ↔ j = k := by
  cases j <;> cases k <;> decide

@[simp] theorem State.noticeSet_set (i k : NoticeKind) (l : NatSet) :
    (s.setNotices i l).noticeSet k = if k = i then l else s.noticeSet k := by
  show tableGet [] (tableSet [] s.notices i.number l) k.number = _
  rw [tableGet_set]
  simp only [NoticeKind.number_inj]
  rfl

/-- What a pend leaves in the pending sets. -/
@[simp] theorem pend_noticeSet (k j : NoticeKind) (x : Nat) :
    (pend k x s).noticeSet j = if j = k then setInsert (s.noticeSet k) x else s.noticeSet j := by
  rw [pend_eq]; exact State.noticeSet_set s k j _

/-! ### The fields of a class and of a port kind -/

@[simp] theorem PerClass.get_set {α : Type} (p : PerClass α) (c d : Cls) (v : α) :
    (p.set c v).get d = if d = c then v else p.get d := by
  cases c <;> cases d <;> rfl

@[simp] theorem PerKind.get_set {α : Type} (p : PerKind α) (k j : PortKind) (v : α) :
    (p.set k v).get j = if j = k then v else p.get j := by
  cases k <;> cases j <;> rfl

theorem PerClass.ext_get {α : Type} {p q : PerClass α} (h : ∀ c, p.get c = q.get c) : p = q := by
  obtain ⟨a, b, c, d⟩ := p
  obtain ⟨a', b', c', d'⟩ := q
  have h0 := h .c0; have h1 := h .c1; have h2 := h .c2; have h3 := h .c3
  simp only [PerClass.get] at h0 h1 h2 h3
  rw [h0, h1, h2, h3]

end Sys2Proof.Machine
end

