-- ==== Sys2Proof/Laws/Ops.lean ====
section
/-! SUPPORT. What each shared operation can do, said once: the fields it leaves, and what it writes. -/

namespace Sys2Proof.Machine

/-! ### The shape of a command -/

theorem atPort_of_lt {p : Nat} (f : State → State) (s : State) (h : p < 40) :
    atPort p f s = .next (f s) := if_pos h

theorem atPort_of_ge {p : Nat} (f : State → State) (s : State) (h : 40 ≤ p) :
    atPort p f s = .refused .illFormed := if_neg (Nat.not_lt.mpr h)

/-- The effect event of the request in execution. -/
theorem effectEvent_of_mine {mine : Message → Bool} {e : Execution} {s : State}
    (effect : Message → State → Answer) (h : s.execution = some e) (hm : mine e.message = true) :
    effectEvent mine effect s = .next (finishRequest e (effect e.message s)) := by
  unfold effectEvent; rw [h]; exact if_pos hm

/-- A row that is not the effect event of the request in execution does nothing. -/
theorem effectEvent_of_other {mine : Message → Bool} {e : Execution} {s : State}
    (effect : Message → State → Answer) (h : s.execution = some e) (hm : mine e.message = false) :
    effectEvent mine effect s = .next s := by
  unfold effectEvent; rw [h]; exact if_neg (by simp [hm])

theorem effectEvent_of_none {mine : Message → Bool} {s : State} (effect : Message → State → Answer)
    (h : s.execution = none) : effectEvent mine effect s = .next s := by
  unfold effectEvent; rw [h]

/-- Every outcome of a request row is a next state: `s` itself, or `s` after the request in execution. -/
theorem effectEvent_cases (mine : Message → Bool) (effect : Message → State → Answer) (s : State) :
    effectEvent mine effect s = .next s ∨
    ∃ e, s.execution = some e ∧ mine e.message = true
      ∧ effectEvent mine effect s = .next (finishRequest e (effect e.message s)) := by
  rcases h : s.execution with _ | e
  · exact .inl (effectEvent_of_none effect h)
  · rcases hm : mine e.message with _ | _
    · exact .inl (effectEvent_of_other effect h hm)
    · exact .inr ⟨e, rfl, hm, effectEvent_of_mine effect h hm⟩

theorem finishRequest_eq (e : Execution) (st : Status) (body : List Word) (s : State) :
    finishRequest e { status := st, body := body, state := s } = { s with
      execution := none
      replies := if e.keepReply then s.replies ++ [replyTo e.message st body] else s.replies } := rfl

/-- A reply is 32 words. -/
theorem replyTo_length (m : Message) (st : Status) (body : List Word) :
    (replyTo m st body).length = 32 := by
  simp [replyTo, padded, zeroMessage]

/-! ### Notices -/

/-- Pending several sources: the kind's set gains them all, and no other set changes. -/
theorem pendAll_noticeSet (k j : NoticeKind) (l : NatSet) (s : State) (y : Nat) :
    y ∈ (pendAll k l s).noticeSet j ↔ y ∈ s.noticeSet j ∨ j = k ∧ y ∈ l := by
  induction l generalizing s with
  | nil => simp [pendAll]
  | cons x rest ih =>
    show y ∈ (pendAll k rest (pend k x s)).noticeSet j ↔ _
    rw [ih, pend_noticeSet]
    by_cases h : j = k
    · subst h; simp only [if_true, mem_setInsert, List.mem_cons, true_and]; tauto
    · simp [h]

/-- Pending several sources leaves all but the pending sets and the messages sent. -/
theorem pendAll_eq (k : NoticeKind) (l : NatSet) (s : State) :
    pendAll k l s = { s with
      notices := (pendAll k l s).notices, interruptsSent := (pendAll k l s).interruptsSent } := by
  induction l generalizing s with
  | nil => rfl
  | cons x rest ih =>
    refine (ih (pend k x s)).trans ?_
    simp only [pend_timebase, pend_nextAging, pend_clock, pend_tenants, pend_profiles, pend_stations,
      pend_agingInterval, pend_pinExpiry, pend_pathSets, pend_pins, pend_ports, pend_freeCount,
      pend_policies, pend_pauseSettings, pend_linkSettings, pend_jobs, pend_pass,
      pend_postingArea, pend_requests, pend_execution, pend_replies, pend_overrun, pend_masks,
      pend_inFlight, pend_draws, pend_pending]
    rfl

/-! ### One port's tests -/

/-- R143: the test changes only the storm timer. -/
theorem Port.stormSync_eq (r : Port) (budget now : Nat) :
    r.stormSync budget now = { r with storm := (r.stormSync budget now).storm } := by
  unfold Port.stormSync
  split
  · split <;> rfl
  · rfl

/-- R143: after the test the timer runs exactly while the queue is PAUSED and holds a frame. -/
theorem Port.stormSync_runs (r : Port) (budget now : Nat) :
    (r.stormSync budget now).storm.isSome = true ↔ r.c2State = .paused ∧ r.queues.c2 ≠ [] := by
  unfold Port.stormSync
  split
  · next h =>
    refine ⟨fun _ => h, fun _ => ?_⟩
    split
    · next h' => simp [h']
    · rfl
  · next h => simpa using h

/-- R135: the test changes only the ingress state, the slot and the renewal time. -/
theorem Port.pauseOnTest_eq (r : Port) (q : PauseSettings) (now : Nat) :
    r.pauseOnTest q now = { r with
      ingress := (r.pauseOnTest q now).ingress, slot := (r.pauseOnTest q now).slot,
      renewal := (r.pauseOnTest q now).renewal } := by
  unfold Port.pauseOnTest
  split <;> rfl

/-- R137: the test changes only the ingress state, the slot and the renewal time. -/
theorem Port.pauseOffTest_eq (r : Port) (q : PauseSettings) :
    r.pauseOffTest q = { r with
      ingress := (r.pauseOffTest q).ingress, slot := (r.pauseOffTest q).slot,
      renewal := (r.pauseOffTest q).renewal } := by
  unfold Port.pauseOffTest
  split <;> rfl

/-- R150: the effect of entering UP on one port. -/
theorem enterUp_eq (p : Nat) (s : State) :
    enterUp p s = s.setPort p
      (Port.pauseOnTest { s.port p with link := .up, debounceEnd := none, holdDownEnd := none }
        (s.pauseOf p) s.timebase) := rfl

/-! ### A frame that leaves the buffer -/

/-- R133, R137: what lowering a lossless count leaves at each port. -/
theorem lowerLossless_port (f : QFrame) (s : State) (q : Nat) :
    (lowerLossless f s).port q =
      if f.cls = .c2 ∧ q = f.ingress.val then
        Port.pauseOffTest
          { s.port f.ingress with losslessCount := (s.port f.ingress).losslessCount - f.cells }
          (s.pauseOf f.ingress)
      else s.port q := by
  unfold lowerLossless
  by_cases h : f.cls = .c2
  · by_cases hq : q = f.ingress.val <;> simp [h, hq]
  · simp [h]

/-- Lowering a lossless count changes only the ports. -/
theorem lowerLossless_eq (f : QFrame) (s : State) :
    lowerLossless f s = { s with ports := (lowerLossless f s).ports } := by
  unfold lowerLossless
  split <;> rfl

/-- R18: the two cases of the test for the return to VACANT. -/
theorem becomeVacantIfDone_cases (t : Nat) (s : State) :
    ((s.tenant t).state = .draining ∧ (s.tenant t).inBuffer = 0 ∧ s.purgeOutstanding t = false
      ∧ becomeVacantIfDone t s = pend .purgeDone t (s.setTenant t vacantTenant))
    ∨ (¬((s.tenant t).state = .draining ∧ (s.tenant t).inBuffer = 0 ∧ s.purgeOutstanding t = false)
      ∧ becomeVacantIfDone t s = s) := by
  unfold becomeVacantIfDone
  split
  · next h => exact .inl ⟨h.1, h.2.1, h.2.2, rfl⟩
  · next h => exact .inr ⟨h, rfl⟩

/-- The test for the return to VACANT changes only the tenants, the pending sets and the messages sent. -/
theorem becomeVacantIfDone_eq (t : Nat) (s : State) :
    becomeVacantIfDone t s = { s with
      tenants := (becomeVacantIfDone t s).tenants, notices := (becomeVacantIfDone t s).notices,
      interruptsSent := (becomeVacantIfDone t s).interruptsSent } := by
  rcases becomeVacantIfDone_cases t s with ⟨-, -, -, h⟩ | ⟨-, h⟩
  · rw [h, pend_eq]; rfl
  · rw [h]

/-- R18: what the test leaves in each tenant record. -/
theorem becomeVacantIfDone_tenant (t u : Nat) (s : State) :
    (becomeVacantIfDone t s).tenant u =
      if u = t ∧ (s.tenant t).state = .draining ∧ (s.tenant t).inBuffer = 0
          ∧ s.purgeOutstanding t = false then vacantTenant
      else s.tenant u := by
  rcases becomeVacantIfDone_cases t s with ⟨h1, h2, h3, h⟩ | ⟨hn, h⟩
  · rw [h, pend_tenant, State.tenant_set]; simp [h1, h2, h3]
  · rw [h, if_neg (fun hc => hn hc.2)]

/-- R18: PURGE_DONE is the only notice that the test can pend. -/
theorem becomeVacantIfDone_noticeSet (t : Nat) (k : NoticeKind) (s : State) (h : k ≠ .purgeDone) :
    (becomeVacantIfDone t s).noticeSet k = s.noticeSet k := by
  rcases becomeVacantIfDone_cases t s with ⟨-, -, -, e⟩ | ⟨-, e⟩
  · rw [e, pend_noticeSet, if_neg h]; rfl
  · rw [e]

/-- R4: lowering an in-buffer count changes only the tenants, the pending sets and the messages sent. -/
theorem lowerInBuffer_eq (t : Nat) (s : State) :
    lowerInBuffer t s = { s with
      tenants := (lowerInBuffer t s).tenants, notices := (lowerInBuffer t s).notices,
      interruptsSent := (lowerInBuffer t s).interruptsSent } := by
  unfold lowerInBuffer
  rw [becomeVacantIfDone_eq]
  rfl

/-- R4, R18: what lowering an in-buffer count leaves in each tenant record. -/
theorem lowerInBuffer_tenant (t u : Nat) (s : State) :
    (lowerInBuffer t s).tenant u =
      if u = t then
        (if (s.tenant t).state = .draining ∧ (s.tenant t).inBuffer - 1 = 0
            ∧ s.purgeOutstanding t = false then vacantTenant
          else { s.tenant t with inBuffer := (s.tenant t).inBuffer - 1 })
      else s.tenant u := by
  unfold lowerInBuffer
  rw [becomeVacantIfDone_tenant]
  simp only [State.tenant_set, if_true]
  have h : (s.setTenant t { s.tenant t with inBuffer := (s.tenant t).inBuffer - 1 }).purgeOutstanding t
      = s.purgeOutstanding t := rfl
  rw [h]
  by_cases hu : u = t
  · subst hu; simp
  · simp [hu]

/-- R4: the count itself, whether or not the tenant becomes VACANT. -/
theorem lowerInBuffer_inBuffer (t u : Nat) (s : State) :
    ((lowerInBuffer t s).tenant u).inBuffer
      = (s.tenant u).inBuffer - if u = t then 1 else 0 := by
  rw [lowerInBuffer_tenant]
  by_cases hu : u = t
  · subst hu
    simp only [if_true]
    split
    · next h => rw [h.2.1]; rfl
    · rfl
  · simp [hu]

/-- R130, R131: a release changes only what R119, R4 and R133 tie to the frame, and its notices. -/
theorem releaseFrame_eq (f : QFrame) (s : State) :
    releaseFrame f s = { s with
      ports := (releaseFrame f s).ports, tenants := (releaseFrame f s).tenants
      freeCount := s.freeCount + f.cells, notices := (releaseFrame f s).notices
      interruptsSent := (releaseFrame f s).interruptsSent } := by
  unfold releaseFrame
  rw [lowerLossless_eq, lowerInBuffer_eq]
  rfl

theorem releaseFrame_port (f : QFrame) (s : State) (q : Nat) :
    (releaseFrame f s).port q =
      if f.cls = .c2 ∧ q = f.ingress.val then
        Port.pauseOffTest
          { s.port f.ingress with losslessCount := (s.port f.ingress).losslessCount - f.cells }
          (s.pauseOf f.ingress)
      else s.port q := by
  have hp : ∀ q, (lowerInBuffer f.tenant (returnCells f s)).port q = s.port q := fun q => by
    rw [lowerInBuffer_eq]; rfl
  have hq : ∀ q, (lowerInBuffer f.tenant (returnCells f s)).pauseOf q = s.pauseOf q := fun q => by
    rw [lowerInBuffer_eq]; rfl
  unfold releaseFrame
  rw [lowerLossless_port, hp, hp, hq]

theorem releaseFrame_tenant (f : QFrame) (s : State) (u : Nat) :
    (releaseFrame f s).tenant u = (lowerInBuffer f.tenant s).tenant u := by
  unfold releaseFrame
  rw [lowerLossless_eq]
  show (lowerInBuffer f.tenant (returnCells f s)).tenant u = _
  rw [lowerInBuffer_tenant, lowerInBuffer_tenant]
  rfl

/-- A release touches no queue and no transmitter. -/
theorem releaseFrame_queues (f : QFrame) (s : State) (q : Nat) :
    ((releaseFrame f s).port q).queues = (s.port q).queues
      ∧ ((releaseFrame f s).port q).transmitter = (s.port q).transmitter := by
  rw [releaseFrame_port]
  split
  · next h => rw [Port.pauseOffTest_eq, h.2]; exact ⟨rfl, rfl⟩
  · exact ⟨rfl, rfl⟩

/-- R119: the cells of a list of released frames return. -/
theorem releaseFrames_freeCount (l : List QFrame) (s : State) :
    (l.foldl (fun s f => releaseFrame f s) s).freeCount = s.freeCount + cellsOf l := by
  induction l generalizing s with
  | nil => simp [cellsOf]
  | cons f rest ih =>
    rw [List.foldl_cons, ih, releaseFrame_eq]
    simp [cellsOf]
    omega

/-- A list of released frames touches no queue and no transmitter. -/
theorem releaseFrames_queues (l : List QFrame) (s : State) (q : Nat) :
    ((l.foldl (fun s f => releaseFrame f s) s).port q).queues = (s.port q).queues
      ∧ ((l.foldl (fun s f => releaseFrame f s) s).port q).transmitter = (s.port q).transmitter := by
  induction l generalizing s with
  | nil => exact ⟨rfl, rfl⟩
  | cons f rest ih =>
    rw [List.foldl_cons]
    have h := ih (releaseFrame f s)
    have h' := releaseFrame_queues f s q
    exact ⟨h.1.trans h'.1, h.2.trans h'.2⟩

/-- R4: what a list of released frames takes from each in-buffer count. -/
theorem releaseFrames_inBuffer (l : List QFrame) (s : State) (u : Nat) :
    ((l.foldl (fun s f => releaseFrame f s) s).tenant u).inBuffer
      = (s.tenant u).inBuffer - (l.filter fun f => f.tenant == u).length := by
  induction l generalizing s with
  | nil => simp
  | cons f rest ih =>
    rw [List.foldl_cons, ih, releaseFrame_tenant, lowerInBuffer_inBuffer]
    by_cases h : f.tenant = u
    · subst h; simp; omega
    · have h' : ¬u = f.tenant := fun e => h e.symm
      simp [h, h']

/-- A list of released frames leaves all but the ports, tenants, free count and notices. -/
theorem releaseFrames_eq (l : List QFrame) (s : State) :
    l.foldl (fun s f => releaseFrame f s) s = { s with
      ports := (l.foldl (fun s f => releaseFrame f s) s).ports
      tenants := (l.foldl (fun s f => releaseFrame f s) s).tenants
      freeCount := (l.foldl (fun s f => releaseFrame f s) s).freeCount
      notices := (l.foldl (fun s f => releaseFrame f s) s).notices
      interruptsSent := (l.foldl (fun s f => releaseFrame f s) s).interruptsSent } := by
  induction l generalizing s with
  | nil => rfl
  | cons f rest ih =>
    rw [List.foldl_cons, ih, releaseFrame_eq]

/-- R137: two tests with two falls of the count leave what one test with both falls leaves. -/
theorem Port.pauseOffTest_twice (r : Port) (q : PauseSettings) (a b : Nat) :
    Port.pauseOffTest
        { Port.pauseOffTest { r with losslessCount := r.losslessCount - a } q with
          losslessCount := (Port.pauseOffTest { r with losslessCount := r.losslessCount - a } q).losslessCount - b } q
      = Port.pauseOffTest { r with losslessCount := r.losslessCount - (a + b) } q := by
  by_cases hp : r.ingress = .pausing
  · by_cases h : r.losslessCount - a ≤ q.pauseOff
    · have h' : r.losslessCount - (a + b) ≤ q.pauseOff := by omega
      simp [Port.pauseOffTest, hp, h, h', Nat.sub_sub]
    · simp [Port.pauseOffTest, hp, h, Nat.sub_sub]
  · simp [Port.pauseOffTest, hp, Nat.sub_sub]

/-- R133: the C2 frames of a list that entered at port `q`. -/
def enteredAt (q : Nat) (l : List QFrame) : List QFrame :=
  l.filter fun f => f.cls == .c2 && f.ingress.val == q

/-- R133, R137: what a list of released frames leaves at each port. -/
theorem releaseFrames_port (l : List QFrame) (s : State) (q : Nat) :
    (l.foldl (fun s f => releaseFrame f s) s).port q =
      if enteredAt q l = [] then s.port q
      else Port.pauseOffTest
        { s.port q with losslessCount := (s.port q).losslessCount - cellsOf (enteredAt q l) }
        (s.pauseOf q) := by
  induction l generalizing s with
  | nil => rfl
  | cons f rest ih =>
    have hq : (releaseFrame f s).pauseOf q = s.pauseOf q := by rw [releaseFrame_eq]; rfl
    rw [List.foldl_cons, ih, hq]
    by_cases hf : f.cls = .c2 ∧ q = f.ingress.val
    · obtain ⟨h1, rfl⟩ := hf
      have he : enteredAt f.ingress.val (f :: rest) = f :: enteredAt f.ingress.val rest := by
        simp [enteredAt, h1]
      have hc : cellsOf (f :: enteredAt f.ingress.val rest)
          = f.cells + cellsOf (enteredAt f.ingress.val rest) := by simp [cellsOf]
      have hr := releaseFrame_port f s f.ingress.val
      rw [if_pos ⟨h1, rfl⟩] at hr
      rw [hr, he, if_neg (List.cons_ne_nil _ _), hc]
      by_cases h : enteredAt f.ingress.val rest = []
      · rw [if_pos h, h]
        rfl
      · rw [if_neg h]
        exact Port.pauseOffTest_twice (s.port f.ingress.val) (s.pauseOf f.ingress.val) f.cells _
    · have he : enteredAt q (f :: rest) = enteredAt q rest := by
        unfold enteredAt
        rw [List.filter_cons_of_neg]
        intro hc
        simp only [Bool.and_eq_true, beq_iff_eq] at hc
        exact hf ⟨hc.1, hc.2.symm⟩
      rw [releaseFrame_port, if_neg hf, he]

/-- R18: the frames of a list bring a tenant back to VACANT. -/
theorem releaseFrames_tenant (l : List QFrame) (s : State) (u : Nat) :
    (l.foldl (fun s f => releaseFrame f s) s).tenant u =
      if 0 < (l.filter fun f => f.tenant == u).length ∧ (s.tenant u).state = .draining
          ∧ (s.tenant u).inBuffer ≤ (l.filter fun f => f.tenant == u).length
          ∧ s.purgeOutstanding u = false then vacantTenant
      else { s.tenant u with
        inBuffer := (s.tenant u).inBuffer - (l.filter fun f => f.tenant == u).length } := by
  induction l generalizing s with
  | nil => simp
  | cons f rest ih =>
    have hp : (releaseFrame f s).purgeOutstanding u = s.purgeOutstanding u := by
      rw [releaseFrame_eq]; rfl
    rw [List.foldl_cons, ih, hp, releaseFrame_tenant, lowerInBuffer_tenant]
    by_cases h : f.tenant = u
    · subst h
      simp only [if_true, List.filter_cons_of_pos, beq_self_eq_true, List.length_cons]
      generalize (rest.filter fun g => g.tenant == f.tenant).length = n
      by_cases hd : (s.tenant f.tenant).state = .draining ∧ s.purgeOutstanding f.tenant = false
      · obtain ⟨h1, h2⟩ := hd
        by_cases h0 : (s.tenant f.tenant).inBuffer - 1 = 0
        · have : (s.tenant f.tenant).inBuffer ≤ n + 1 := by omega
          simp [h1, h2, h0, this, vacantTenant]
        · have e : ((s.tenant f.tenant).inBuffer - 1 ≤ n) ↔ ((s.tenant f.tenant).inBuffer ≤ n + 1) := by omega
          simp only [h1, h2, h0, and_true, true_and, and_false, if_false, e]
          by_cases hn : (s.tenant f.tenant).inBuffer ≤ n + 1
          · have : 0 < n := by omega
            simp [hn, this]
          · simp [hn, Nat.sub_sub, Nat.add_comm]
      · have e : ∀ P Q : Prop, ¬(P ∧ (s.tenant f.tenant).state = .draining ∧ Q ∧ s.purgeOutstanding f.tenant = false) :=
          fun P Q hh => hd ⟨hh.2.1, hh.2.2.2⟩
        have e' : ∀ Q : Prop, ¬((s.tenant f.tenant).state = .draining ∧ Q ∧ s.purgeOutstanding f.tenant = false) :=
          fun Q hh => hd ⟨hh.1, hh.2.2⟩
        rw [if_neg (e' _), if_neg (e _ _), if_neg (e _ _), Nat.add_comm n 1, ← Nat.sub_sub]
    · have h' : ¬u = f.tenant := fun e => h e.symm
      simp [h, h']

/-- R18: a released frame pends no notice but PURGE_DONE, for the tenant it brings to VACANT. -/
theorem releaseFrame_noticeSet (f : QFrame) (s : State) (k : NoticeKind) (x : Nat) :
    x ∈ (releaseFrame f s).noticeSet k ↔ x ∈ s.noticeSet k ∨ k = .purgeDone ∧ x = f.tenant
      ∧ (s.tenant x).state = .draining ∧ (s.tenant x).inBuffer ≤ 1 ∧ s.purgeOutstanding x = false := by
  have h1 : (releaseFrame f s).noticeSet k = (lowerInBuffer f.tenant (returnCells f s)).noticeSet k := by
    unfold releaseFrame
    rw [lowerLossless_eq]
    rfl
  rw [h1]
  unfold lowerInBuffer
  rcases becomeVacantIfDone_cases f.tenant ((returnCells f s).setTenant f.tenant
      { (returnCells f s).tenant f.tenant with inBuffer := ((returnCells f s).tenant f.tenant).inBuffer - 1 })
    with ⟨a, b, c, e⟩ | ⟨a, e⟩
  · rw [State.tenant_set, if_pos rfl] at a b
    have a' : (s.tenant f.tenant).state = .draining := a
    have b' : (s.tenant f.tenant).inBuffer - 1 = 0 := b
    have c' : s.purgeOutstanding f.tenant = false := c
    rw [e, pend_noticeSet]
    show x ∈ (if k = .purgeDone then setInsert (s.noticeSet .purgeDone) f.tenant else s.noticeSet k) ↔ _
    by_cases hk : k = .purgeDone
    · subst hk
      rw [if_pos rfl, mem_setInsert]
      constructor
      · rintro (rfl | h)
        · exact .inr ⟨rfl, rfl, a', by omega, c'⟩
        · exact .inl h
      · rintro (h | ⟨-, h, -⟩)
        · exact .inr h
        · exact .inl h
    · simp [hk]
  · rw [State.tenant_set, if_pos rfl] at a
    rw [e]
    show x ∈ s.noticeSet k ↔ _
    constructor
    · exact .inl
    · rintro (h | ⟨-, rfl, h2, h3, h4⟩)
      · exact h
      · exact absurd ⟨h2, by show (s.tenant f.tenant).inBuffer - 1 = 0; omega, h4⟩ a

/-- R18, R131: the notices that a list of released frames pends. -/
theorem releaseFrames_noticeSet (l : List QFrame) (s : State) (k : NoticeKind) (x : Nat) :
    x ∈ (l.foldl (fun s f => releaseFrame f s) s).noticeSet k ↔
      x ∈ s.noticeSet k ∨ k = .purgeDone ∧ 0 < (l.filter fun f => f.tenant == x).length
        ∧ (s.tenant x).state = .draining
        ∧ (s.tenant x).inBuffer ≤ (l.filter fun f => f.tenant == x).length
        ∧ s.purgeOutstanding x = false := by
  induction l generalizing s with
  | nil => simp
  | cons f rest ih =>
    have hp : (releaseFrame f s).purgeOutstanding x = s.purgeOutstanding x := by
      rw [releaseFrame_eq]; rfl
    rw [List.foldl_cons, ih, hp, releaseFrame_tenant, lowerInBuffer_tenant, releaseFrame_noticeSet]
    by_cases h : x = f.tenant
    · subst h
      simp only [if_true, List.filter_cons_of_pos, beq_self_eq_true, List.length_cons]
      generalize (rest.filter fun g => g.tenant == f.tenant).length = n
      by_cases hd : (s.tenant f.tenant).state = .draining ∧ s.purgeOutstanding f.tenant = false
      · obtain ⟨h1, h2⟩ := hd
        by_cases h0 : (s.tenant f.tenant).inBuffer - 1 = 0
        · have a : (s.tenant f.tenant).inBuffer ≤ n + 1 := by omega
          have b : (s.tenant f.tenant).inBuffer ≤ 1 := by omega
          simp [h1, h2, h0, a, b, vacantTenant]
        · have b : ¬(s.tenant f.tenant).inBuffer ≤ 1 := by omega
          have e : ((s.tenant f.tenant).inBuffer - 1 ≤ n) ↔ ((s.tenant f.tenant).inBuffer ≤ n + 1) := by omega
          simp only [h1, h2, h0, b, and_true, true_and, and_false, if_false, e, or_false]
          constructor
          · rintro (h | ⟨h, -, h'⟩)
            · exact .inl h
            · exact .inr ⟨h, by omega, h'⟩
          · rintro (h | ⟨h, -, h'⟩)
            · exact .inl h
            · exact .inr ⟨h, by omega, h'⟩
      · have e' : ∀ Q : Prop, ¬((s.tenant f.tenant).state = .draining ∧ Q ∧ s.purgeOutstanding f.tenant = false) :=
          fun Q hh => hd ⟨hh.1, hh.2.2⟩
        rw [if_neg (e' _)]
        simp only [e', and_false, or_false]
    · have h' : ¬f.tenant = x := fun e => h e.symm
      simp [h, h']

/-- A list of released frames leaves every other pending set as it is. -/
theorem releaseFrames_otherNotices (l : List QFrame) (s : State) {k : NoticeKind} (h : k ≠ .purgeDone) :
    (l.foldl (fun s f => releaseFrame f s) s).noticeSet k = s.noticeSet k := by
  induction l generalizing s with
  | nil => rfl
  | cons f rest ih =>
    rw [List.foldl_cons, ih]
    unfold releaseFrame
    rw [lowerLossless_eq]
    show (lowerInBuffer f.tenant (returnCells f s)).noticeSet k = _
    unfold lowerInBuffer
    rw [becomeVacantIfDone_noticeSet _ _ _ h]
    rfl

/-- R131: what a flush leaves at the port it empties: the queue is empty, and the others stand. -/
theorem flushQueue_queues (p q : Nat) (c : Cls) (s : State) :
    ((flushQueue p c s).port q).queues
      = if q = p then (s.port p).queues.set c [] else (s.port q).queues := by
  unfold flushQueue
  rw [(releaseFrames_queues _ _ q).1, State.port_set]
  split
  · rw [State.stormSync, Port.stormSync_eq]
  · rfl

theorem flushQueue_freeCount (p : Nat) (c : Cls) (s : State) :
    (flushQueue p c s).freeCount = s.freeCount + cellsOf ((s.port p).queues.get c) := by
  unfold flushQueue
  rw [releaseFrames_freeCount]
  rfl

theorem flushQueue_inBuffer (p : Nat) (c : Cls) (s : State) (u : Nat) :
    ((flushQueue p c s).tenant u).inBuffer = (s.tenant u).inBuffer
      - (((s.port p).queues.get c).filter fun f => f.tenant == u).length := by
  unfold flushQueue
  rw [releaseFrames_inBuffer]
  rfl

theorem flushQueue_transmitter (p q : Nat) (c : Cls) (s : State) :
    ((flushQueue p c s).port q).transmitter
      = if q = p ∧ (s.port p).transmitter = .frame c then .idle else (s.port q).transmitter := by
  unfold flushQueue
  rw [(releaseFrames_queues _ _ q).2, State.port_set]
  by_cases h : q = p
  · subst h
    simp only [if_true, true_and]
    rw [State.stormSync, Port.stormSync_eq]
  · simp [h]

/-- A flush leaves all but the ports, tenants, free count and notices. -/
theorem flushQueue_eq (p : Nat) (c : Cls) (s : State) :
    flushQueue p c s = { s with
      ports := (flushQueue p c s).ports, tenants := (flushQueue p c s).tenants
      freeCount := (flushQueue p c s).freeCount, notices := (flushQueue p c s).notices
      interruptsSent := (flushQueue p c s).interruptsSent } := by
  unfold flushQueue
  rw [releaseFrames_eq]
  rfl

/-! ### Flap histories and the hold-down -/

/-- R158: an append keeps at most eight entries, the last of them now. -/
theorem flapAppend_length (history : List Nat) (now windowS : Nat) :
    (flapAppend history now windowS).length ≤ 8 := by
  simp only [flapAppend, List.length_drop]
  omega

theorem mem_flapAppend {history : List Nat} {now windowS x : Nat}
    (h : x ∈ flapAppend history now windowS) : x = now ∨ x ∈ history := by
  have := List.mem_of_mem_drop h
  simp only [List.mem_append, List.mem_filter, List.mem_singleton] at this
  tauto

/-! ### Copies in flight -/

theorem redirectCopy_length (l : List (List Copy)) (k : Nat) (d : Dest) :
    (redirectCopy l k d).length = l.length := by
  induction l generalizing k with
  | nil => rfl
  | cons f rest ih =>
    cases k with
    | zero => unfold redirectCopy; split <;> rfl
    | succ k => simp [redirectCopy, ih]

/-- R88: a hand-over touches no other frame in flight. -/
theorem redirectCopy_other (l : List (List Copy)) {j k : Nat} (d : Dest) (h : j ≠ k) :
    (redirectCopy l k d)[j]? = l[j]? := by
  induction l generalizing j k with
  | nil => rfl
  | cons f rest ih =>
    cases k with
    | zero =>
      cases j with
      | zero => exact absurd rfl h
      | succ j => unfold redirectCopy; split <;> rfl
    | succ k =>
      cases j with
      | zero => rfl
      | succ j => simpa [redirectCopy] using ih (fun e => h (congrArg Nat.succ e))

/-- R88: the next copy of the frame is bound for the uplink reached. -/
theorem nextCopy_handOver {s : State} {k : Nat} {c : Copy} (u : Fin 8) (h : s.nextCopy k = some c) :
    (s.handOver k u).nextCopy k = some { c with dest := .uplink u } := by
  have key : ∀ (l : List (List Copy)) (k : Nat),
      (match l[k]? with | some (c :: _) => some c | some [] => none | none => none) = some c →
      (match (redirectCopy l k (.uplink u))[k]? with
        | some (c :: _) => some c | some [] => none | none => none)
        = some { c with dest := .uplink u } := by
    intro l
    induction l with
    | nil => intro k h; simp at h
    | cons f rest ih =>
      intro k h
      cases k with
      | zero =>
        cases f with
        | nil => simp at h
        | cons a more =>
          simp only [List.length_cons, Nat.zero_lt_succ, List.getElem?_eq_getElem,
            List.getElem_cons_zero, Option.some.injEq] at h
          subst h
          rfl
      | succ k => simpa [redirectCopy] using ih k (by simpa using h)
  exact key s.inFlight k h

end Sys2Proof.Machine
end

