-- ==== Sys2Proof/Tests/Slice0.lean ====
section
/-! SUPPORT. Tests of the model. The expected results are the spec's own worked examples and tables, or are
computed by hand from its rules; each test names its source. A `witness_` theorem shows a state and
operands that meet the hypotheses of the obligation it is named after, at the ends of their ranges. -/

set_option Elab.async false

namespace Sys2Proof.Tests

open Sys2Proof Sys2Proof.Machine Sys2Proof.Safety

/-! ### Small states -/

/-- A request of a kind with the words of its body. -/
def request (kind : Nat) (body : List Nat) : Message := padded (out kind :: body.map out)

/-- A state in which that request is in execution. -/
def serving (kind : Nat) (body : List Nat) (s : State) : State :=
  { s with execution := some { message := request kind body, keepReply := true } }

/-- The state that a command leaves; the power-on state where it stops. -/
def after : Result → State
  | .next t => t
  | .fault _ => State.reset
  | .refused _ => State.reset

/-- The body of the newest reply, its first words. -/
def answer (n : Nat) (s : State) : List Nat :=
  ((s.replies.getLastD zeroMessage).drop 1).take n |>.map BitVec.toNat

/-- The status code of the newest reply. -/
def statusOf (s : State) : Nat := num (s.replies.getLastD zeroMessage) 0 / 256 % 256

theorem running_serving (k : Nat) (body : List Nat) (s : State) (h : k < 256) :
    Running (serving k body s) k (request k body) true := by
  refine ⟨rfl, ?_⟩
  show (out k).toNat % 256 = k
  simp only [out, BitVec.toNat_ofNat]
  omega

/-- A port that is UP with its lane LOCKED. -/
def upPort : Port := { powerOnPort with link := .up, lane := .locked }

/-- A frame of `n` cells of tenant 7 in class `c` that entered at D3. -/
def heldFrame (c : Cls) (n : Nat) : QFrame :=
  { tenant := 7, cls := c, len := 256 * n, cells := n, ingress := 3, markCapable := true,
    tag := { tenant := 7, cls := c, markCapable := true, mark := false, label := 9#32 },
    uncharged := false, data := [] }

/-- A tenant in contract with room for stations. -/
def tenant7 : Tenant :=
  { vacantTenant with
    state := .active, profile := 1, portSet := 0xFF#32, stationLimit := 2, allowance := 5, inBuffer := 1 }

/-- D3 and D5 are UP; D5 sends a C2 frame of tenant 7 that entered at D3. -/
def busy : State :=
  { State.reset with
    timebase := 1000000
    tenants := [(7, tenant7)]
    ports := [(3, { upPort with losslessCount := 8, flapHistory := [10, 1000000] }),
      (5, { upPort with queues := ⟨[], [], [heldFrame .c2 8], []⟩, transmitter := .frame .c2 })]
    freeCount := 98296 }

theorem busy_port (p : Nat) : busy.port p =
    if p = 3 then { upPort with losslessCount := 8, flapHistory := [10, 1000000] }
    else if p = 5 then
      { upPort with queues := ⟨[], [], [heldFrame .c2 8], []⟩, transmitter := .frame .c2 }
    else powerOnPort := by
  simp only [State.port, busy, tableGet]

theorem busy_tenant (t : Nat) : busy.tenant t = if t = 7 then tenant7 else vacantTenant := by
  simp only [State.tenant, busy, tableGet]

/-! ### Commands that name something the part does not have (WellFormed) -/

/-- 00_scope.md "Ports": the last port is 39. -/
theorem test_ports_end_at_39 :
    [Instr.frameTaken 40 true [], .pauseMessageReceived 40 true [], .transmissionStart 40,
      .transmissionCompletion 40, .controlMessageSend 40, .controlMessageEnd 40, .renewalExpiry 40,
      .pauseExpiry 40, .stormExpiry 40, .recoveryExpiry 40, .laneLoss 40, .laneLock 40,
      .debounceExpiry 40, .holdDownExpiry 40].all (fun c => !c.wellFormed) = true
    ∧ (Instr.laneLoss 39).wellFormed = true := by decide

/-- R175: word 31 of the posting area is POST; a control word without its bit is neither row. -/
theorem test_window_rows_refuse :
    (Instr.postingAreaWrite 31 0#32).wellFormed = false
    ∧ (Instr.release 2#32).wellFormed = false ∧ (Instr.overrunFlagClear 1#32).wellFormed = false
    ∧ exec (.laneLoss 40) State.reset = .refused .illFormed :=
  ⟨by decide, by decide, by decide, rfl⟩

/-- No row of spec/opcode_table.json has bits, so no word spells a command. -/
theorem test_no_word_spells_a_command :
    decodeTableWord 8 1 = none ∧ State.reset.withFetchWord 8 1 = State.reset := by decide

/-! ### Hashes and formats -/

/-- 00_scope.md "The flow hash": the check value of the nine bytes 0x31 to 0x39. -/
theorem test_crc_check_value :
    crc32 [0x31#8, 0x32#8, 0x33#8, 0x34#8, 0x35#8, 0x36#8, 0x37#8, 0x38#8, 0x39#8] = 0x340BC6D9#32 := by
  decide +kernel

/-- "Tenant tag": 230 = 57 × 4 + 2, so byte 14 is 57 and byte 15 holds 2, class C2, mark-capable. -/
theorem test_tenant_tag :
    tagBytes { tenant := 230, cls := .c2, markCapable := true, mark := false, label := 0x01020304#32 }
      = [0xB7#8, 0xA4#8, 57#8, 0xA8#8, 1#8, 2#8, 3#8, 4#8] := by decide

/-- R189: a resume is 64 bytes long, its frame check sequence counted; a pause of 20,000 µs carries class 2
and 0x4E20. -/
theorem test_pause_message :
    (pauseOnWire .resume).length = 64
    ∧ ((pauseOnWire (.pause 20000)).drop 12).take 6 = [0xB7#8, 0xA5#8, 2#8, 0#8, 0x4E#8, 0x20#8] := by
  decide

/-! ### Charges (02_charging.md, 2.7 and 2.9) -/

/-- 2.7.1: tenant 52's record and profile 6, and D5 sending its C2 frame of 1,500 bytes. -/
def crossing : State :=
  { State.reset with
    clock := { valid := true, minute := 1100, nextAdvance := some 60000000 }
    profiles := [(6, { powerOnProfile with
      rates := ⟨0, 800, 300, 0⟩, multiplier := 8, surcharge := 2, peakHours := 0x40000#24 })]
    tenants := [(52, { vacantTenant with
      state := .active, profile := 6, allowance := 3, ceiling := 2000, inBuffer := 1
      meters := ⟨zeroMeters, zeroMeters, { zeroMeters with residue := 5000000 }, zeroMeters⟩ })]
    ports := [(5, { upPort with
      queues := ⟨[], [], [{ heldFrame .c2 6 with tenant := 52, len := 1500 }], []⟩
      transmitter := .frame .c2 })]
    masks := 0#11
    freeCount := 98298 }

/-- 2.7.1, crossing the allowance: 4 units, of which 3 come from the allowance. -/
theorem test_completion_crosses_the_allowance :
    let t := after (exec (.transmissionCompletion 5) crossing)
    (t.tenant 52).state = .overage ∧ (t.tenant 52).allowance = 0 ∧ (t.tenant 52).overage = 1
    ∧ (t.tenant 52).meters.c2 = ⟨1500, 1, 4, 7445568⟩ ∧ (t.tenant 52).inBuffer = 0
    ∧ t.noticeSet .tenantOverage = [52] ∧ t.noticeSet .tenantThrottled = []
    ∧ t.interruptsSent = 1 ∧ t.freeCount = 98304 := by decide +kernel

/-- 2.7.2, reaching the ceiling, and 2.7.3, both thresholds in one charge. -/
theorem test_charge_reaches_the_ceiling :
    (chargeRecord { vacantTenant with state := .overage, overage := 1998, ceiling := 2000 }
        (4000 * 800 * 1 * 8) .c1 4000)
      = { record := { vacantTenant with
            state := .throttled, overage := 2001, ceiling := 2000
            meters := ⟨zeroMeters, ⟨4000, 1, 3, 434176⟩, zeroMeters, zeroMeters⟩ }
          crossedAllowance := false, crossedCeiling := true, saturatedNow := false }
    ∧ (chargeRecord { vacantTenant with state := .active, allowance := 2, ceiling := 3 }
        (6400 * 1000 * 1 * 8) .c0 6400)
      = { record := { vacantTenant with
            state := .throttled, overage := 4, ceiling := 3
            meters := ⟨⟨6400, 1, 6, 868352⟩, zeroMeters, zeroMeters, zeroMeters⟩ }
          crossedAllowance := true, crossedCeiling := true, saturatedNow := false } := by
  decide +kernel

/-- 2.7.6, saturation of the overage accumulator: 5 of 8 units fit. -/
theorem test_charge_saturates :
    (chargeRecord { vacantTenant with state := .overage, overage := 1099511627770 }
        (9216 * 1000 * 1 * 8) .c0 9216)
      = { record := { vacantTenant with
            state := .overage, overage := 1099511627775, saturated := true
            meters := ⟨⟨9216, 1, 8, 6619136⟩, zeroMeters, zeroMeters, zeroMeters⟩ }
          crossedAllowance := false, crossedCeiling := false, saturatedNow := true } := by
  decide +kernel

/-- 2.9: the product before and after the advance into the peak hour 18. -/
theorem test_charge_at_the_hour_boundary :
    let r := { powerOnProfile with rates := ⟨0, 700, 0, 0⟩, surcharge := 4, peakHours := 0x40000#24 }
    chargeProduct r ⟨true, 1079, none⟩ .c1 1500 = 8400000
    ∧ chargeProduct r ⟨true, 1080, none⟩ .c1 1500 = 12600000
    ∧ chargeResidue 8400000 0 = 11392 ∧ chargeResidue 12600000 0 = 4211392 := by decide +kernel

/-- R39: the clock wraps from 1,439 to 0. -/
theorem test_clock_advance_wraps :
    (after (exec .clockAdvance { State.reset with
      timebase := 70000000
      clock := { valid := true, minute := 1439, nextAdvance := some 70000000 } })).clock
      = { valid := true, minute := 0, nextAdvance := some 130000000 } := by decide +kernel

/-- R38: the first posting falls at 10 s, the next at 20 s. -/
theorem test_aging_posting :
    let t := after (exec .agingPosting { State.reset with timebase := 10000000 })
    t.jobs.aging = true ∧ t.nextAging = 20000000
    ∧ (after (exec .agingPosting { State.reset with timebase := 9999999 })).jobs.aging = false := by
  decide +kernel

/-! ### Frame Intake (03_frame_intake.md, 3.9) -/

/-- Tenant 230 of 3.9 in a state: profile 3 sends C2 to C1; D5, D6 and D7 are UP and D9 is DOWN. -/
def intakeState (x : TenantState) : State :=
  { State.reset with
    profiles := [(3, { powerOnProfile with demotion := ⟨.c0, .c1, .c1, .c3⟩ })]
    tenants := [(230, { vacantTenant with
      state := x, profile := 3, portSet := 0x2E0#32, defaultPath := some 12, stationLimit := 4 })]
    ports := [(5, upPort), (6, upPort), (7, upPort), (35, upPort)] }

/-- The bytes of a frame of tenant 230 (byte 14 is 57) whose byte 15 is `low`. -/
def frameBytes (dst src : List Byte) (low : Byte) (len : Nat) : List Byte :=
  dst ++ src ++ [0xB7#8, 0xA4#8, 57#8, low] ++ List.replicate (len - 16) 0#8

def stationX : List Byte := [0x02#8, 0#8, 0#8, 0#8, 0#8, 0x10#8]

def stationY : List Byte := [0x02#8, 0#8, 0#8, 0#8, 0#8, 0x11#8]

/-- What 3.9's tables give of each copy. -/
def copyRow (c : Copy) : Dest × Cls × Bool × Nat × Nat := (c.dest, c.cls, c.throttled, c.cells, c.ingress)

/-- Frame A: requested class C2, mark-capable, to the broadcast address, 1,000 bytes, on D5. -/
def afterFrameA : State :=
  after (exec (.frameTaken 5 true (frameBytes (List.replicate 6 0xFF#8) stationX 0xA8#8 1000))
    (intakeState .overage))

/-- 3.9, frame A: three copies in the order of R59, each C1; X is learned on D5. -/
theorem test_frame_floods :
    afterFrameA.inFlight.map (List.map copyRow)
      = [[(.downlink 6, .c1, false, 4, 5), (.downlink 7, .c1, false, 4, 5), (.resolve 12, .c1, false, 4, 5)]]
    ∧ afterFrameA.lookup 230 0x020000000010#48 = some (.downlink 5)
    ∧ (afterFrameA.tenant 230).stationCount = 1 := by decide +kernel

/-- 3.9, frame B: a THROTTLED tenant's C2 frame of 9,216 bytes from U3 to X; and frame C, from D8, which is
not in the port set. -/
theorem test_frame_unicast_and_dropped :
    let s := { afterFrameA with
      inFlight := [], tenants := (intakeState .throttled).tenants }
    (after (exec (.frameTaken 35 true (frameBytes stationX stationY 0xA0#8 9216)) s)).inFlight.map
        (List.map copyRow) = [[(.downlink 5, .c0, true, 36, 35)]]
    ∧ (after (exec (.frameTaken 8 true (frameBytes stationX stationY 0xA0#8 100))
        (s.setPort 8 upPort))).inFlight = [] := by decide +kernel

/-! ### Resolution (05, 5.7 and 5.9; 06, 6.8 and 6.9) -/

/-- The sets of 5.7, with the gaps of 6.5; the uplinks named in `ports` differ from UP. -/
def chain (cursor : Nat) (ports : List (Nat × Port)) : State :=
  { State.reset with
    pathSets :=
      [(12, { mode := .hashed, members := [.uplink 0, .uplink 1, .redirect 14], fallback := some 13,
              cursor := 0, flowlet := 400, restore := 20000, setchange := 100000, lossless := 2000 }),
        (13, { mode := .hashed, members := [.uplink 2, .uplink 3], fallback := none, cursor := 0,
               flowlet := 0, restore := 0, setchange := 0, lossless := 0 }),
        (14, { mode := .rotating, members := [.uplink 4, .uplink 5, .uplink 6, .uplink 7],
               fallback := some 13, cursor := cursor, flowlet := 300, restore := 10000,
               setchange := 50000, lossless := 1000 }),
        (20, { emptyPathSet with members := [.redirect 21] }),
        (21, { emptyPathSet with members := [.redirect 20] })]
    ports := [(32, upPort), (33, upPort), (34, upPort), (35, upPort), (36, upPort), (37, upPort),
      (38, upPort), (39, upPort)].map fun e => (e.1, tableGet e.2 ports e.1) }

/-- A C1 copy of tenant 230 for set `n`, with pin slot 2,000, pin check 37,500 and a hash div 8,192. -/
def copyFor (d : Dest) (c : Cls) (high : Nat) : Copy :=
  { dest := d, tenant := 230, cls := c, throttled := false, len := 256, cells := 1, ingress := 3,
    markCapable := false, pinSlot := 2000, pinCheck := 37500#16, hashHigh := high,
    tag := { tenant := 230, cls := c, markCapable := false, mark := false, label := 0#32 }, data := [] }

/-- U1 SUSPECT. -/
def u1Suspect : List (Nat × Port) := [(33, { upPort with link := .suspect })]

/-- U1 SUSPECT and U4 to U7 in storm hold. -/
def u4to7Held : List (Nat × Port) :=
  u1Suspect ++ [36, 37, 38, 39].map fun p => (p, { upPort with stormHold := true })

/-- 5.7, cases 1 to 3: where the walks of one hash end, and the cursor of set 14 after them. -/
theorem test_walks_of_one_hash :
    let c := copyFor (.resolve 12) .c1 1000003
    ((chain 2 []).freshResolution c 12).outcome = .reached ⟨12, 1⟩ 1
    ∧ ((chain 2 u1Suspect).freshResolution c 12).outcome = .reached ⟨14, 2⟩ 6
    ∧ (tableGet emptyPathSet ((chain 2 u1Suspect).freshResolution c 12).sets 14).cursor = 3
    ∧ homeOf c 12 ((chain 2 u1Suspect).freshResolution c 12) ⟨14, 2⟩ = ⟨12, 1⟩
    ∧ ((chain 2 u4to7Held).freshResolution c 12).outcome = .reached ⟨13, 1⟩ 3
    ∧ (tableGet emptyPathSet ((chain 2 u4to7Held).freshResolution c 12).sets 14).cursor = 2 := by
  decide +kernel

/-- 5.9: two sets that lead to each other are a chain fault of the origin set, and the copy is dropped. -/
theorem test_resolution_cycle :
    let s := { chain 2 [] with inFlight := [[copyFor (.resolve 20) .c1 1]] }
    let t := after (exec (.resolutionEvent 0) s)
    t.inFlight = [] ∧ t.noticeSet .chainFault = [20] ∧ (t.pin 2000).valid = false := by decide +kernel

/-- 6.8: flow F's pin as event 2 leaves it. -/
def pinF : Pin :=
  { valid := true, check := 37500#16, origin := 12, current := ⟨12, 1⟩, home := ⟨12, 1⟩,
    lastUse := 5000100 }

/-- 6.8 at a time, with pin `r` and the C1 re-steer threshold 800. -/
def flowF (now cursor : Nat) (ports : List (Nat × Port)) (r : Pin) : State :=
  { chain cursor ports with
    timebase := now
    pins := [(2000, r)]
    policies := powerOnPolicies.set .uplink
      ((powerOnPolicies.get .uplink).set .c1 { powerOnPolicy with resteer := 800 })
    inFlight := [[copyFor (.resolve 12) .c1 300001]] }

/-- 6.8, events 3 and 5: the fault move to (14, 2), and the restore once the gap of 100,000 is met; event 4
stays. -/
theorem test_flow_through_a_fault_and_back :
    (after (exec (.resolutionEvent 0) (flowF 5000200 2 u1Suspect pinF))).pin 2000
      = { pinF with current := ⟨14, 2⟩, lastUse := 5000200 }
    ∧ (after (exec (.resolutionEvent 0)
        (flowF 5020000 3 [] { pinF with current := ⟨14, 2⟩, lastUse := 5000200 }))).pin 2000
      = { pinF with current := ⟨14, 2⟩, lastUse := 5020000 }
    ∧ (after (exec (.resolutionEvent 0)
        (flowF 5130000 3 [] { pinF with current := ⟨14, 2⟩, lastUse := 5020000 }))).pin 2000
      = { pinF with lastUse := 5130000 } := by decide +kernel

/-- An UP port whose C2 queue holds `n` cells. -/
def holding (n : Nat) : Port := { upPort with queues := ⟨[], [], [heldFrame .c2 n], []⟩ }

/-- 6.9: flow H in set 40 at a time, with the occupancy of U0's queue and the pin's last-use. -/
def flowH (now u0 u1 lastUse : Nat) : State :=
  { State.reset with
    timebase := now
    pathSets := [(40, { emptyPathSet with
      members := [.uplink 0, .uplink 1, .uplink 2, .uplink 3], flowlet := 250, restore := 4000
      setchange := 30000, lossless := 5000 })]
    ports := [(32, holding u0), (33, holding u1), (34, holding 300), (35, { upPort with stormHold := true })]
    policies := powerOnPolicies.set .uplink
      ((powerOnPolicies.get .uplink).set .c2 { powerOnPolicy with resteer := 600 })
    pins := [(2000, { valid := true, check := 37500#16, origin := 40, current := ⟨40, 1⟩,
                      home := ⟨40, 1⟩, lastUse := lastUse })]
    inFlight := [[copyFor (.resolve 40) .c2 1]] }

/-- 6.9: copy 1 stays, its gap of 5,000 not met; copy 2 moves to U0, the least occupied candidate. -/
theorem test_congestion_move :
    let t := after (exec (.resolutionEvent 0) (flowH 9003000 310 640 9000000))
    let u := after (exec (.resolutionEvent 0) (flowH 9009500 280 650 9003000))
    (t.pin 2000).current = ⟨40, 1⟩ ∧ (t.pin 2000).lastUse = 9003000
    ∧ (u.pin 2000).current = ⟨40, 0⟩ ∧ (u.pin 2000).home = ⟨40, 0⟩
    ∧ u.inFlight.map (List.map Copy.dest) = [[.uplink 0]] := by decide +kernel

/-! ### Buffer, queues and transmission (07) -/

/-- 7.9: the downlink C0 record, and D6 and D7 with their C0 occupancies. -/
def nearlyFull (d : Dest) : State :=
  { State.reset with
    freeCount := 20
    tenants := [(230, { vacantTenant with state := .throttled, inBuffer := 3 })]
    ports := [(6, { upPort with queues := ⟨[heldFrame .c0 110], [], [], []⟩ }),
      (7, { upPort with queues := ⟨[heldFrame .c0 115], [], [], []⟩ })]
    policies := powerOnPolicies.set .downlink ((powerOnPolicies.get .downlink).set .c0
      { powerOnPolicy with drop := 6000, throttle := 120 })
    inFlight := [[{ copyFor d .c0 0 with throttled := true, len := 2000, cells := 8 }]] }

/-- 7.9: copy 1 is admitted to D6; copy 2 is dropped at D7 by the throttle test. -/
theorem test_admission :
    let t := after (exec (.admission 0) (nearlyFull (.downlink 6)))
    let u := after (exec (.admission 0) (nearlyFull (.downlink 7)))
    t.freeCount = 12 ∧ (t.tenant 230).inBuffer = 4 ∧ t.occupancy 6 .c0 = 118 ∧ t.inFlight = []
    ∧ u.freeCount = 20 ∧ (u.tenant 230).inBuffer = 3 ∧ u.occupancy 7 .c0 = 115 ∧ u.inFlight = [] := by
  decide +kernel

/-- 7.10: U2 with frames in its queues, its C2 queue PAUSED, and a rotation position. -/
def rotating (c3 c1 c0 : List QFrame) (i : Fin 4) : State :=
  { State.reset with
    ports := [(34, { upPort with
      queues := ⟨c0, c1, [heldFrame .c2 1], c3⟩, c2State := .paused, pauseEnd := some 9, rotation := i })] }

/-- 7.10, starts 3 and 6: C3 leaves the rotation alone; with C1 empty C0 starts from position 3. -/
theorem test_start_rotation :
    let t := (after (exec (.transmissionStart 34) (rotating [heldFrame .c3 1] [heldFrame .c1 1] [] 2))).port 34
    let u := (after (exec (.transmissionStart 34) (rotating [] [] [heldFrame .c0 1] 0))).port 34
    t.transmitter = .frame .c3 ∧ t.rotation = 2 ∧ u.transmitter = .frame .c0 ∧ u.rotation = 0 := by
  decide +kernel

/-- R129: a mark threshold of 0 marks every mark-capable frame, and the mark goes out in its tag. -/
theorem test_start_marks :
    let s := { rotating [] [heldFrame .c1 1] [] 0 with
      policies := powerOnPolicies.set .uplink ((powerOnPolicies.get .uplink).set .c1
        { powerOnPolicy with mark := 0 }) }
    (((after (exec (.transmissionStart 34) s)).port 34).queues.c1.map fun f => f.tag.mark) = [true]
    ∧ (((after (exec (.transmissionStart 34) (rotating [] [heldFrame .c1 1] [] 0))).port 34).queues.c1.map
        fun f => f.tag.mark) = [false] := by decide +kernel

/-- 7.11: D5 with two C1 frames, the older in transmission, and one C2 frame, all of tenant 41 from D3. -/
def failing : State :=
  { State.reset with
    freeCount := 50000
    timebase := 2000000
    tenants := [(41, { vacantTenant with state := .active, allowance := 1, inBuffer := 3 })]
    ports := [(3, { upPort with losslessCount := 4 }),
      (5, { upPort with
        queues := ⟨[], [{ heldFrame .c1 6 with tenant := 41 }, { heldFrame .c1 6 with tenant := 41 }],
          [{ heldFrame .c2 4 with tenant := 41 }], []⟩
        transmitter := .frame .c1 })] }

/-- 7.11: the lane loss aborts the frame in transmission and keeps the others. -/
theorem test_lane_loss_aborts :
    let t := after (exec (.laneLoss 5) failing)
    t.freeCount = 50006 ∧ (t.tenant 41).inBuffer = 2 ∧ (t.port 3).losslessCount = 4
    ∧ (t.port 5).link = .suspect ∧ (t.port 5).debounceEnd = some 2010000
    ∧ t.occupancy 5 .c1 = 6 ∧ t.occupancy 5 .c2 = 4 ∧ (t.tenant 41).meters.c1 = zeroMeters := by
  decide +kernel

/-- 7.11: the debounce expiry flushes the four queues, pends LINK_DOWN and posts the flush of D5. -/
theorem test_debounce_expiry_flushes :
    let t := after (exec (.debounceExpiry 5)
      { after (exec (.laneLoss 5) failing) with timebase := 2010000 })
    t.freeCount = 50016 ∧ (t.tenant 41).inBuffer = 0 ∧ (t.port 3).losslessCount = 0
    ∧ (t.port 5).link = .down ∧ (t.port 5).flapHistory = [2010000]
    ∧ t.noticeSet .linkDown = [5] ∧ t.jobs.ports = [5] := by decide +kernel

/-! ### Pause control (08) -/

/-- A pause message for class C2 with the duration's two bytes. -/
def pauseFrame (hi lo : Byte) : List Byte :=
  List.replicate 12 0#8 ++ [0xB7#8, 0xA5#8, 2#8, 0#8, hi, lo] ++ List.replicate 46 0#8

/-- 8.7: U2's C2 queue with three frames of 8 cells, two from D4 and one from D7. -/
def storming (now : Nat) (r : Port) : State :=
  { State.reset with
    timebase := now
    freeCount := 98280
    tenants := [(7, { tenant7 with inBuffer := 3 })]
    ports := [(4, { upPort with losslessCount := 16 }), (7, { upPort with losslessCount := 8 }),
      (34, { r with queues := ⟨[], [], [{ heldFrame .c2 8 with ingress := 4 },
        { heldFrame .c2 8 with ingress := 4 }, { heldFrame .c2 8 with ingress := 7 }], []⟩ })] }

/-- 8.7 at 1,000,000: a pause of 30,000 µs (0x7530) starts the pause and the storm timer. -/
theorem test_pause_starts_the_storm_timer :
    let t := after (exec (.pauseMessageReceived 34 true (pauseFrame 0x75#8 0x30#8)) (storming 1000000 upPort))
    (t.port 34).c2State = .paused ∧ (t.port 34).pauseEnd = some 1030000
    ∧ (t.port 34).storm = some ⟨1000000, 1200000⟩ := by decide +kernel

/-- 8.7 at 1,200,000: the stall discards the three frames, and the recovery ends at 6,200,000. -/
theorem test_storm_expiry :
    let r := { upPort with c2State := .paused, pauseEnd := some 1210000, storm := some ⟨1000000, 1200000⟩ }
    let t := after (exec (.stormExpiry 34) (storming 1200000 r))
    t.freeCount = 98304 ∧ (t.port 4).losslessCount = 0 ∧ (t.port 7).losslessCount = 0
    ∧ (t.port 34).c2State = .stalled ∧ (t.port 34).recoveryEnd = some 6200000
    ∧ (t.port 34).stormHold = true ∧ t.noticeSet .pauseStorm = [34] := by decide +kernel

/-- 8.6 at 100: the count of 1,036 puts D3 into PAUSING with its renewal at 10,100; at 12,000 the count of
506 places the resume. -/
theorem test_pause_tests :
    ({ upPort with losslessCount := 1036 }.pauseOnTest (powerOnPauseSettings.get .downlink) 100)
      = { upPort with
          losslessCount := 1036, ingress := .pausing, slot := some (.pause 20000), renewal := some 10100 }
    ∧ ({ upPort with losslessCount := 506, ingress := .pausing, renewal := some 20100 }.pauseOffTest
        (powerOnPauseSettings.get .downlink))
      = { upPort with losslessCount := 506, slot := some .resume } := by decide +kernel

/-- 8.6 at 10,100 and 12,000: the renewal, the message that goes out, and its end. -/
theorem test_pause_messages_go_out :
    let s := { State.reset with
      timebase := 10100
      ports := [(3, { upPort with losslessCount := 636, ingress := .pausing, renewal := some 10100 })] }
    let t := after (exec (.renewalExpiry 3) s)
    let u := after (exec (.controlMessageSend 3) t)
    (t.port 3).slot = some (.pause 20000) ∧ (t.port 3).renewal = some 20100
    ∧ (u.port 3).slot = none ∧ (u.port 3).transmitter = .control (.pause 20000)
    ∧ ((after (exec (.controlMessageEnd 3) u)).port 3).transmitter = .idle := by decide +kernel

/-- R141 and R145: a PAUSED queue becomes READY at its pause end, a STALLED one at its recovery end. -/
theorem test_pause_and_recovery_expiry :
    let s := { State.reset with
      timebase := 50
      ports := [(4, { upPort with c2State := .paused, pauseEnd := some 50 }),
        (34, { upPort with c2State := .stalled, recoveryEnd := some 50, stormHold := true })] }
    (after (exec (.pauseExpiry 4) s)).port 4 = upPort
    ∧ (after (exec (.recoveryExpiry 34) s)).port 34 = upPort := by decide +kernel

/-! ### The link monitor (09) -/

/-- 9.7, events 9 and 12: three entries give the penalty of 30 s, and an append drops the old ones. -/
theorem test_flap_history :
    holdDown { powerOnPort with flapHistory := [100010000, 101000000, 130010000] } powerOnLinkSettings
      130300000 = 30000000
    ∧ flapAppend [100010000, 101000000, 130010000] 170010000 60 = [130010000, 170010000]
    ∧ holdDown { powerOnPort with flapHistory := [130010000, 170010000] } powerOnLinkSettings
      170100000 = 2000000 := by decide +kernel

/-- 9.8, case b: the remaining storm recovery decides; 8.7 at 3,500,000. -/
theorem test_lane_lock_waits_for_the_recovery :
    let s := { State.reset with
      timebase := 3500000
      ports := [(34, { powerOnPort with flapHistory := [3010000], recoveryEnd := some 6200000 })] }
    let t := after (exec (.laneLock 34) s)
    (t.port 34).link = .proving ∧ (t.port 34).holdDownEnd = some 6200000 := by decide +kernel

/-- 9.7, event 6: the hold-down expiry enters UP with LINK_UP. -/
theorem test_hold_down_expiry :
    let s := { State.reset with
      timebase := 103200000
      ports := [(37, { powerOnPort with link := .proving, lane := .locked, holdDownEnd := some 103200000 })] }
    let t := after (exec (.holdDownExpiry 37) s)
    t.port 37 = upPort ∧ t.noticeSet .linkUp = [37] := by decide +kernel

/-- 9.9: LINK_ADMIN down on UP answers UP and ADMIN_DOWN with the flush posted; up with the lane LOST answers
ADMIN_DOWN and DOWN. -/
theorem test_link_admin :
    let t := after (exec .linkAdminDown (serving 24 [9, 0] { State.reset with ports := [(9, upPort)] }))
    let u := after (exec .linkAdminUp (serving 24 [9, 1]
      { State.reset with ports := [(9, { powerOnPort with link := .adminDown })] }))
    answer 2 t = [0, 4] ∧ t.jobs.ports = [9] ∧ t.noticeSet .linkDown = [9] ∧ answer 2 u = [4, 2] := by
  decide +kernel

/-- R163: values below and above their bounds. -/
theorem test_link_timing :
    let t := after (exec .linkTiming (serving 25 [0, 60001, 601, 9, 0, 256, 99] State.reset))
    answer 7 t = [1, 60000, 600, 8, 1, 255, 100] ∧ statusOf t = 1 := by decide +kernel

/-- R164: a port in storm hold, DOWN with its lane LOST, with one flap in the window. -/
theorem test_link_read :
    let s := { State.reset with
      timebase := 70
      ports := [(39, { powerOnPort with flapHistory := [60], recoveryEnd := some 100, stormHold := true })] }
    let t := after (exec .linkRead (serving 26 [39] s))
    answer 7 t = [2 + 256 + 65536, 0, 0, 30, 1, 60, 0]
    ∧ (answer 31 t).drop 21 = [1, 10, 2000, 30, 3, 60, 19, 5000, 70, 0] := by decide +kernel

/-! ### The Table Sweeper (10, 10.6) -/

/-- 10.6: the pass with four jobs, with the entries and pins of events 2 and 5 to 8. -/
def sweeping (phase : Phase) (position : Nat) : State :=
  { State.reset with
    timebase := 400000000
    tenants := [(50, { vacantTenant with state := .active, allowance := 1, stationLimit := 1, stationCount := 1 }),
      (117, { vacantTenant with state := .draining, stationLimit := 1, stationCount := 1 })]
    stations := [(300, some { tenant := 117, address := 0x02#48, kind := .static, target := .path 3,
                              lastSeen := 1 }),
      (9000, some { tenant := 50, address := 0x04#48, kind := .learned, target := .downlink 8,
                    lastSeen := 388 })]
    pins := [(2000, { valid := true, check := 1#16, origin := 12, current := ⟨14, 2⟩, home := ⟨12, 1⟩,
                      lastUse := 399997000 }),
      (5000, { valid := true, check := 1#16, origin := 12, current := ⟨12, 0⟩, home := ⟨12, 0⟩,
               lastUse := 389000000 })]
    pass := some { carried := { aging := true, ports := [6], tenants := [117], sets := [14] },
                   phase := phase, position := position } }

/-- 10.6, events 1, 2 and 6: the pass start; the purge removes a STATIC entry; an entry that is not stale and
names no flushed port stays. -/
theorem test_station_visits :
    let s := { State.reset with jobs := { aging := true, ports := [6], tenants := [117], sets := [14] } }
    let t := after (exec .stationVisit (sweeping .stations 300))
    (after (exec .passStart s)).pass
      = some { carried := s.jobs, phase := .stations, position := 0 }
    ∧ t.station 300 = none ∧ (t.tenant 117).stationCount = 0 ∧ t.pass.map Pass.position = some 301
    ∧ ((after (exec .stationVisit (sweeping .stations 9000))).station 9000).isSome = true := by
  decide +kernel

/-- 10.6, events 7 and 8: the rebalance and the aging each invalidate a pin. -/
theorem test_pin_visits :
    ((after (exec .pinVisit (sweeping .pins 2000))).pin 2000).valid = false
    ∧ ((after (exec .pinVisit (sweeping .pins 5000))).pin 5000).valid = false
    ∧ ((after (exec .pinVisit (sweeping .pins 5000))).pin 2000).valid = true := by decide +kernel

/-- 10.6, event 9: the pass end. -/
theorem test_pass_end :
    let s := { sweeping .pins 8192 with
      stations := [], tenants := [(117, { vacantTenant with state := .draining, stationLimit := 1 })] }
    let t := after (exec .passEnd s)
    t.noticeSet .flushDone = [6] ∧ t.noticeSet .rebalanceDone = [14] ∧ t.noticeSet .purgeDone = [117]
    ∧ t.tenant 117 = vacantTenant ∧ t.pass = none
    ∧ exec .passEnd (sweeping .pins 8191) = .next (sweeping .pins 8191) :=
  ⟨by decide +kernel, by decide +kernel, by decide +kernel, by decide +kernel, by decide +kernel, rfl⟩

/-- R174: what SWEEP_READ says of 10.6's pass at pin slot 2,001. -/
theorem test_sweep_read :
    answer 17 (after (exec .sweepRead (serving 27 [117] (sweeping .pins 2001))))
      = [0, 0, 0, 0, 0, 0, 1, 1, 64, 16384, 0, 1, 1, 1, 2001, 300, 10] := by decide +kernel

/-! ### Requests -/

/-- R8: an opened tenant with an allowance is ACTIVE; R7: a tenant number of 1,024 is MALFORMED. -/
theorem test_tenant_open :
    let t := after (exec .tenantOpen (serving 1 [9, 3, 5, 0x8000000C, 10, 7, 0, 0, 1] State.reset))
    (t.tenant 9).state = .active ∧ (t.tenant 9).defaultPath = some 12 ∧ (t.tenant 9).allowance = 7
    ∧ (t.tenant 9).ceiling = 4294967296 ∧ answer 1 t = [1] ∧ t.execution = none
    ∧ statusOf (after (exec .tenantOpen (serving 1 [1024] State.reset))) = 8 := by decide +kernel

/-- R9: a limit below the station count is refused with LIMIT. -/
theorem test_tenant_amend :
    let s := { State.reset with tenants := [(9, { tenant7 with stationCount := 2 })] }
    statusOf (after (exec .tenantAmend (serving 2 [9, 0, 0, 0, 1, 0, 0] s))) = 6
    ∧ statusOf (after (exec .tenantAmend (serving 2 [9, 0, 0, 0, 2, 0, 0] s))) = 0 := by decide +kernel

/-- R10: a top-up beyond 2^40 - 1 is held there and answers DONE_CLAMPED. -/
theorem test_tenant_topup :
    let t := after (exec .tenantTopup (serving 3 [7, 0xFFFFFFFF, 0xFF] busy))
    (t.tenant 7).allowance = 1099511627775 ∧ statusOf t = 1 := by decide +kernel

/-- R11, R191: a collection reports the record and zeroes all but the residue. -/
theorem test_tenant_collect :
    let r := { tenant7 with
      state := .throttled, allowance := 0, overage := 9, ceiling := 9
      meters := ⟨⟨4294967297, 3, 5, 6⟩, zeroMeters, zeroMeters, zeroMeters⟩ }
    let t := after (exec .tenantCollect (serving 4 [9] { State.reset with tenants := [(9, r)] }))
    (t.tenant 9).state = .overage ∧ (t.tenant 9).overage = 0 ∧ (t.tenant 9).meters.c0 = ⟨0, 0, 0, 6⟩
    ∧ answer 16 t = [3 + 32 + 256, 255, 0, 2, 0, 0, 9, 0, 9, 0, 1, 1, 1, 5, 3, 256 * 6] := by
  decide +kernel

/-- R13, R14 and R16 on tenant 7 of `busy`. -/
theorem test_tenant_states :
    let t := after (exec .tenantSuspend (serving 6 [7] busy))
    let u := after (exec .tenantRetire (serving 8 [7] t))
    (t.tenant 7).state = .suspended
    ∧ ((after (exec .tenantResume (serving 7 [7] t))).tenant 7).state = .active
    ∧ (u.tenant 7).state = .draining ∧ u.jobs.tenants = [7]
    ∧ statusOf (after (exec .tenantRead (serving 5 [8] busy))) = 3 := by decide +kernel

/-- R20, R21: a multiplier of 7, a surcharge of 8 and a target above its class are clamped. -/
theorem test_profile_write :
    let t := after (exec .profileWrite (serving 9 [3, 1, 2, 3, 4, 7, 0xF, 8, 0, 0xF6] State.reset))
    let u := after (exec .profileRead (serving 10 [3] t))
    answer 9 t = [1, 2, 3, 4, 4, 15, 7, 0, 0xE4]
    ∧ statusOf t = 1 ∧ answer 9 u = answer 9 t := by decide +kernel

/-- R40, R41. -/
theorem test_clock_requests :
    let t := after (exec .clockSet (serving 11 [1079] { State.reset with timebase := 5 }))
    answer 6 (after (exec .clockRead (serving 12 [] { t with timebase := 15 })))
      = [1, 1079, 17, 59999990, 15, 0]
    ∧ statusOf (after (exec .clockSet (serving 11 [1440] State.reset))) = 8 := by decide +kernel

/-- R71, R72: an insert takes the lowest free way; a group address is MALFORMED. -/
theorem test_station_insert :
    let t := after (exec .stationInsert (serving 13 [7, 0x10, 0x0200, 0x105] busy))
    (t.lookup 7 0x020000000010#48) = some (.downlink 5) ∧ (t.tenant 7).stationCount = 1
    ∧ (answer 4 t).drop 1 = [0, 0, 0]
    ∧ statusOf (after (exec .stationInsert (serving 13 [7, 0x10, 0x0100, 0x105] busy))) = 8 := by
  decide +kernel

/-- R73, R74: the entry just inserted is found, reachable as D5 is UP, and then removed. -/
theorem test_station_find_and_remove :
    let t := after (exec .stationInsert (serving 13 [7, 0x10, 0x0200, 0x105] busy))
    let u := after (exec .stationFind (serving 14 [7, 0x10, 0x0200] t))
    let v := after (exec .stationRemove (serving 15 [7, 0x10, 0x0200] t))
    (answer 5 u).drop 1 = [1, 0x105, 1, 1] ∧ (v.tenant 7).stationCount = 0 ∧ v.stations = []
    ∧ statusOf (after (exec .stationFind (serving 14 [7, 0x10, 0x0200] v))) = 5 := by decide +kernel

/-- R77: an interval below 10 s loads 300; both bounds are kept. -/
theorem test_station_aging :
    answer 2 (after (exec .stationAging (serving 16 [9, 0] State.reset))) = [300, 1]
    ∧ answer 2 (after (exec .stationAging (serving 16 [3601, 61] State.reset))) = [3600, 60]
    ∧ statusOf (after (exec .stationAging (serving 16 [10, 60] State.reset))) = 0 := by decide +kernel

/-- R94, R95, R97: a written set reads back, its rebalance is posted; a member U8 is refused. -/
theorem test_pathset_requests :
    let t := after (exec .pathsetWrite (serving 17
      [14, 1, 2, 0x101, 0x23F, 0, 0, 0, 0, 0, 0, 0x8000000D, 1, 2, 3, 4] State.reset))
    answer 24 (after (exec .pathsetRead (serving 18 [14] t)))
      = [1, 2, 0x101, 0x23F, 0, 0, 0, 0, 0, 0, 0x8000000D, 0, 1, 2, 3, 4, 0, 1, 0, 0, 0, 0, 0, 0]
    ∧ t.jobs.sets = [14]
    ∧ statusOf (after (exec .pathsetWrite (serving 17 [14, 1, 1, 0x108] State.reset))) = 8 := by
  decide +kernel

/-- R117: flow F's pin of 6.8 after event 3, while U1 is SUSPECT and set 14's U6 is UP. -/
theorem test_pin_read :
    answer 13 (after (exec .pinRead (serving 19 [2000]
      (flowF 5000300 3 u1Suspect { pinF with current := ⟨14, 2⟩, lastUse := 5000200 }))))
      = [1, 37500, 12, 14 * 256 + 2, 12 * 256 + 1, 5000200, 0, 100, 0, 0x80000006, 1, 0x80000001, 0] := by
  decide +kernel

/-- R123, R132: a threshold above 98,304 is clamped; a C2 record has no drop and no throttle threshold. -/
theorem test_policy_and_queue_requests :
    let t := after (exec .policyWrite (serving 20 [1, 2, 98305, 1, 600, 2] busy))
    answer 4 t = [98304, 0, 600, 0] ∧ statusOf t = 1
    ∧ answer 13 (after (exec .queueRead (serving 21 [5, 2] busy)))
      = [8, 1, 0, 0, 1, 8, 7, 0, 98304, 0, 0, 0, 98296] := by decide +kernel

/-- R148: its two examples; R149 reads what was stored. -/
theorem test_pause_requests :
    let t := after (exec .pauseWrite (serving 22 [0, 3000, 3000, 0] State.reset))
    answer 3 t = [3000, 1500, 1] ∧ statusOf t = 1
    ∧ answer 3 (after (exec .pauseWrite (serving 22 [1, 0, 0, 7] State.reset))) = [1, 0, 7]
    ∧ answer 14 (after (exec .pauseRead (serving 23 [5] t)))
      = [0, 0, 0, 0, 0, 3000, 1500, 1, 0, 0, 0, 0, 0, 0] := by decide +kernel

/-! ### The host window and the notices (11) -/

/-- R177, R178, R180: a posted message is taken, an unknown kind is MALFORMED, a release frees the reply. -/
theorem test_post_take_and_release :
    let s := after (exec (.post 7#32) (after (exec (.postingAreaWrite 0 0x00AB001E#32) State.reset)))
    let t := after (exec .unknownKind (after (exec .requestTake s)))
    s.windowRead 31 = some 7#32 ∧ s.windowRead 64 = some 31#32
    ∧ t.windowRead 32 = some 0x00AB081E#32 ∧ t.windowRead 64 = some 0x120#32
    ∧ (after (exec (.release 1#32) t)).windowRead 32 = some 0#32 := by decide +kernel

/-- R177: the 33rd post is an overrun, with source 0; the flag is cleared by bit 1. -/
theorem test_post_overrun :
    let s := { State.reset with requests := List.replicate 32 zeroMessage, masks := 0#11 }
    let t := after (exec (.post 1#32) s)
    t.requests.length = 32 ∧ t.overrun = true ∧ t.noticeSet .postingOverrun = [0] ∧ t.interruptsSent = 1
    ∧ t.windowRead 64 = some 0x30000#32
    ∧ (after (exec (.overrunFlagClear 2#32) t)).overrun = false := by decide +kernel

/-- R185, R192: of two kinds the higher priority goes first, its lowest source; a masked kind is passed over. -/
theorem test_notice_fetch :
    let s := { State.reset with notices := [(1, [3, 9]), (7, [2])], masks := 1#11 }
    answer 5 (after (exec .noticeFetch (serving 28 [1] s))) = [1, 3, 1, 65, 1]
    ∧ answer 5 (after (exec .noticeFetch (serving 28 [0] s))) = [7, 2, 0, 1, 1]
    ∧ answer 5 (after (exec .noticeFetch (serving 28 [0] State.reset))) = [0, 0, 0, 0, 2047] := by
  decide +kernel

/-- R186, R187: unmasking a kind with a source pending sends one message. -/
theorem test_notice_mask :
    let s := { State.reset with notices := [(2, [5])] }
    let t := after (exec .noticeMask (serving 29 [2045] s))
    answer 2 t = [2045, 2] ∧ t.interruptsSent = 1
    ∧ (after (exec .noticeMask (serving 29 [2046] s))).interruptsSent = 0 := by decide +kernel

/-- R188: a control reset empties the host side; the request in execution goes on and its reply is lost. -/
theorem test_control_reset :
    let s := { serving 11 [600] busy with replies := [zeroMessage], overrun := true, notices := [(2, [5])] }
    let t := after (exec .controlReset s)
    let u := after (exec .clockSet t)
    t.replies = [] ∧ t.overrun = false ∧ t.notices = [] ∧ t.freeCount = 98296
    ∧ u.clock.minute = 600 ∧ u.replies = [] ∧ u.execution = none := by decide +kernel

/-- POWER_ON keeps only the commands that wait. -/
theorem test_power_on :
    after (exec .powerOn { busy with pending := [.passStart] })
      = { State.reset with pending := [.passStart] } := rfl

/-- Log entry 3: with nothing waiting the timebase counts, and it waits at 10 s for the posting. -/
theorem test_tick :
    (after (step State.reset)).timebase = 1
    ∧ (after (step { State.reset with timebase := 10000000 })).timebase = 10000000 := by decide +kernel

/-! ### Witnesses: the machine, the engine and the notices -/

theorem witness_TheTimebaseCountsAndPosts :
    (State.reset.pending = [] ∧ State.reset.eventDue = false
      ∧ State.reset.timebase + 1 < 281474976710656)
    ∧ { State.reset with timebase := 10000000 }.eventDue = true
    ∧ { State.reset with timebase := 281474976710655, nextAging := 281474976710656 }.eventDue = false
    ∧ (∃ n x, { valid := true, minute := n, nextAdvance := some x : Clock }
        = { valid := true, minute := 1439, nextAdvance := some 0 } ∧ n ≤ 1439 ∧ x ≤ State.reset.timebase) :=
  ⟨by decide +kernel, by decide +kernel, by decide +kernel, 1439, 0, rfl, by decide, by decide⟩

theorem witness_CommandsLeaveTheQueue : exec .powerOn busy = .next State.reset := rfl

theorem witness_OnlyIllFormedCommandsStop :
    (Instr.laneLoss 39).wellFormed = true ∧ (Instr.postingAreaWrite 30 0#32).wellFormed = true
    ∧ (Instr.laneLoss 40).wellFormed = false ∧ (Instr.postingAreaWrite 31 0#32).wellFormed = false := by
  decide

theorem witness_ControlResetEmptiesTheHostSide :
    State.reset.execution = none
    ∧ (serving 5 [7] busy).execution = some { message := request 5 [7], keepReply := true } := ⟨rfl, rfl⟩

theorem witness_HostWritesAndTakingsActAtOnce :
    (0 < 31 ∧ 30 < 31)
    ∧ { State.reset with requests := List.replicate 31 zeroMessage }.requests.length < 32
    ∧ 32 ≤ { State.reset with requests := List.replicate 32 zeroMessage }.requests.length
    ∧ (0x3#32).getLsbD 0 = true ∧ (0x3#32).getLsbD 1 = true
    ∧ (∃ m rest, { State.reset with
          requests := [zeroMessage], replies := List.replicate 31 zeroMessage }.requests = m :: rest
        ∧ State.reset.execution = none ∧ (List.replicate 31 zeroMessage).length < 32)
    ∧ (serving 0 [] busy).execution = some { message := request 0 [], keepReply := true }
    ∧ (kindOf (request 0 []) = 0 ∧ 29 < kindOf (request 30 []) ∧ 29 < kindOf (request 255 [])) :=
  ⟨by decide, by decide, by decide, by decide, by decide, ⟨zeroMessage, [], rfl, rfl, by decide⟩, rfl,
    by decide +kernel⟩

theorem witness_EachRequestIsAnsweredOnceByItsOwnRow :
    (serving 5 [7] busy).execution = some { message := request 5 [7], keepReply := true }
    ∧ (Instr.tenantOpen ∈ requestRows ∧ .tenantOpen ≠ requestRow (request 5 [7]))
    ∧ requestRow (request 29 []) = .noticeMask ∧ busy.execution = none := by
  refine ⟨rfl, ?_, ?_, rfl⟩ <;> decide +kernel

theorem witness_TheHostWindowReadsBack :
    EngineBounds { busy with
      requests := List.replicate 32 zeroMessage, replies := List.replicate 32 zeroMessage }
    ∧ EngineBounds State.reset := by
  unfold EngineBounds; decide +kernel

theorem witness_PendingANoticeAddsItsSource :
    setWf ({ busy with notices := [(2, [5])] }.noticeSet .linkDown) = true
    ∧ NoticeKind.linkUp ≠ NoticeKind.linkDown := by decide

theorem witness_InterruptsFollowTheCondition :
    Instr.passStart ≠ Instr.powerOn ∧ ∃ t, exec .passStart busy = .next t := ⟨by decide, _, rfl⟩

/-- With the include-masked flag the masked kind of lowest number goes first; without it, the unmasked. -/
theorem witness_NoticeRequestsFetchAndMask :
    let s := { busy with notices := [(1, [3, 9]), (7, [2])], masks := 1#11 }
    (Running (serving 28 [1] s) 28 (request 28 [1]) true ∧ num (request 28 [1]) 1 = 1
      ∧ 3 ∈ s.noticeSet .pauseStorm ∧ (∀ y ∈ s.noticeSet .pauseStorm, 3 ≤ y)
      ∧ ∀ j : NoticeKind, ¬j.number < NoticeKind.pauseStorm.number)
    ∧ (Running (serving 28 [0] s) 28 (request 28 [0]) true ∧ num (request 28 [0]) 1 = 0
      ∧ s.masked .linkUp = false ∧ 2 ∈ s.noticeSet .linkUp ∧ (∀ y ∈ s.noticeSet .linkUp, 2 ≤ y)
      ∧ ∀ j : NoticeKind, j.number < NoticeKind.linkUp.number → s.noticeSet j = [] ∨ s.masked j = true)
    ∧ (∀ j : NoticeKind, (serving 28 [0] busy).noticeSet j = [])
    ∧ Running (serving 29 [2047] s) 29 (request 29 [2047]) true := by
  refine ⟨⟨running_serving _ _ _ (by decide), by decide +kernel, by decide, by decide, ?_⟩,
    ⟨running_serving _ _ _ (by decide), by decide +kernel, by decide, by decide, by decide, ?_⟩, ?_,
    running_serving _ _ _ (by decide)⟩
  · intro j; cases j <;> decide
  · intro j; cases j <;> decide
  · intro j; cases j <;> decide

/-! ### Witnesses: tenants, profiles and charges -/

theorem witness_TenantOpenAndAmendWriteTheRecord :
    let a := [1023, 15, 5, 0x8000003F, 16384, 0xFFFFFFFF, 0xFF, 0xFFFFFFFF, 0xFF]
    let b := [7, 15, 5, 0, 16384, 0xFFFFFFFF, 0xFF]
    (Running (serving 1 a busy) 1 (request 1 a) true ∧ num (request 1 a) 1 < 1024
      ∧ num (request 1 a) 2 < 16 ∧ optionalSet (request 1 a) 4 = some (some 63)
      ∧ num (request 1 a) 5 ≤ 16384 ∧ num2 (request 1 a) 6 ≤ 1099511627775
      ∧ num2 (request 1 a) 8 ≤ 1099511627775 ∧ ((serving 1 a busy).tenant 1023).state = .vacant)
    ∧ (Running (serving 2 b busy) 2 (request 2 b) true ∧ num (request 2 b) 1 < 1024
      ∧ num (request 2 b) 2 < 16 ∧ optionalSet (request 2 b) 4 = some none
      ∧ num (request 2 b) 5 ≤ 16384 ∧ num2 (request 2 b) 6 ≤ 1099511627775
      ∧ ((serving 2 b busy).tenant 7).state.inContract = true ∧ ((serving 2 b busy).tenant 7).stationCount ≤ num (request 2 b) 5) :=
  ⟨⟨running_serving _ _ _ (by decide), by decide +kernel⟩,
    ⟨running_serving _ _ _ (by decide), by decide +kernel⟩⟩

theorem witness_TenantTopupAndCollectMoveTheMoney :
    let a := [7, 0xFFFFFFFF, 0xFF]
    (Running (serving 3 a busy) 3 (request 3 a) true ∧ num (request 3 a) 1 < 1024
      ∧ num2 (request 3 a) 2 ≤ 1099511627775 ∧ ((serving 3 a busy).tenant 7).state.inContract = true)
    ∧ (Running (serving 4 [7] busy) 4 (request 4 [7]) true ∧ num (request 4 [7]) 1 < 1024
      ∧ ((serving 4 [7] busy).tenant 7).state ≠ .vacant) :=
  ⟨⟨running_serving _ _ _ (by decide), by decide +kernel⟩,
    ⟨running_serving _ _ _ (by decide), by decide +kernel⟩⟩

/-- A record with every field at the top of its range. -/
def fullTenant : Tenant :=
  let m : Meters := ⟨281474976710655, 1099511627775, 281474976710655, 8388607⟩
  { state := .suspended, profile := 15, portSet := 0xFFFFFFFF#32, defaultPath := some 63
    stationLimit := 16384, stationCount := 16384, allowance := 1099511627775, overage := 1099511627775
    ceiling := 1099511627775, inBuffer := 98304, saturated := true, meters := ⟨m, m, m, m⟩ }

/-- The record of D5's tenant, a VACANT one, and a report of each range's top. -/
theorem witness_TenantReadChangesNothing :
    (Running (serving 5 [7] busy) 5 (request 5 [7]) true ∧ num (request 5 [7]) 1 < 1024
      ∧ ((serving 5 [7] busy).tenant 7).state ≠ .vacant)
    ∧ (Running (serving 5 [1023] busy) 5 (request 5 [1023]) true ∧ num (request 5 [1023]) 1 < 1024
      ∧ ((serving 5 [1023] busy).tenant 1023).state = .vacant)
    ∧ (tenantInRange fullTenant ∧ fullTenant.profile ≤ 15 ∧ fullTenant.stationLimit ≤ 16384
      ∧ fullTenant.stationCount ≤ fullTenant.stationLimit ∧ fullTenant.inBuffer ≤ 98304
      ∧ fullTenant.defaultPath = some 63 ∧ tenantInRange vacantTenant) := by
  refine ⟨⟨running_serving _ _ _ (by decide), by decide +kernel⟩,
    ⟨running_serving _ _ _ (by decide), by decide +kernel⟩, ?_, by decide, by decide, by decide, by decide,
    rfl, ?_⟩
  · exact ⟨by decide, by decide, by decide, fun c => by unfold metersInRange; cases c <;> decide⟩
  · exact ⟨by decide, by decide, by decide, fun c => by unfold metersInRange; cases c <;> decide⟩

theorem witness_SuspendResumeAndRetireMoveTheState :
    let s := { busy with tenants := [(1023, { tenant7 with state := .suspended })] }
    (Running (serving 6 [7] busy) 6 (request 6 [7]) true ∧ num (request 6 [7]) 1 < 1024
      ∧ ((serving 6 [7] busy).tenant 7).state.openForTraffic = true)
    ∧ (Running (serving 7 [1023] s) 7 (request 7 [1023]) true ∧ num (request 7 [1023]) 1 < 1024
      ∧ ((serving 7 [1023] s).tenant 1023).state = .suspended)
    ∧ (Running (serving 8 [1023] s) 8 (request 8 [1023]) true ∧ num (request 8 [1023]) 1 < 1024
      ∧ ((serving 8 [1023] s).tenant 1023).state.inContract = true) :=
  ⟨⟨running_serving _ _ _ (by decide), by decide +kernel⟩,
    ⟨running_serving _ _ _ (by decide), by decide +kernel⟩,
    ⟨running_serving _ _ _ (by decide), by decide +kernel⟩⟩

/-- Each of the four refusals of R7's order: out of range, VACANT, wrong state, limit. -/
theorem witness_TenantRequestsRefuseInOrder :
    (Running (serving 5 [1024] busy) 5 (request 5 [1024]) true
      ∧ tenantRefusal 5 (request 5 [1024]) ((serving 5 [1024] busy).tenant 1024) = some .malformed)
    ∧ tenantRefusal 2 (request 2 [7, 16, 0, 0, 0, 0, 0]) tenant7 = some .malformed
    ∧ tenantRefusal 3 (request 3 [8]) vacantTenant = some .noTenant
    ∧ tenantRefusal 1 (request 1 [7, 15]) tenant7 = some .notVacant
    ∧ tenantRefusal 7 (request 7 [7]) tenant7 = some .badState
    ∧ tenantRefusal 2 (request 2 [7, 15, 0, 0, 1, 0, 0]) { tenant7 with stationCount := 2 }
        = some .limit :=
  ⟨⟨running_serving _ _ _ (by decide), by decide +kernel⟩, by decide +kernel, by decide +kernel,
    by decide +kernel, by decide +kernel, by decide +kernel⟩

theorem witness_ProfileRequestsStoreAndReturn :
    let a := [15, 65535, 65535, 65535, 65535, 255, 0xF, 15, 0, 0xFF]
    (Running (serving 9 a busy) 9 (request 9 a) true ∧ num (request 9 a) 1 < 16
      ∧ num (request 9 a) 2 ≤ 65535 ∧ num (request 9 a) 3 ≤ 65535 ∧ num (request 9 a) 4 ≤ 65535
      ∧ num (request 9 a) 5 ≤ 65535)
    ∧ (Running (serving 9 [16] busy) 9 (request 9 [16]) true ∧ 16 ≤ num (request 9 [16]) 1)
    ∧ (Running (serving 10 [15] busy) 10 (request 10 [15]) true ∧ num (request 10 [15]) 1 < 16)
    ∧ (Running (serving 10 [16] busy) 10 (request 10 [16]) true ∧ 16 ≤ num (request 10 [16]) 1) :=
  ⟨⟨running_serving _ _ _ (by decide), by decide +kernel⟩,
    ⟨running_serving _ _ _ (by decide), by decide +kernel⟩,
    ⟨running_serving _ _ _ (by decide), by decide +kernel⟩,
    ⟨running_serving _ _ _ (by decide), by decide +kernel⟩⟩

/-- R29: the largest price. -/
def dearProfile : Profile :=
  { powerOnProfile with rates := ⟨65535, 65535, 65535, 65535⟩, multiplier := 32, surcharge := 7 }

theorem witness_PriceAndBoundsOfACharge :
    profileInRange dearProfile ∧ 9216 ≤ 9216 ∧ 8388607 ≤ 8388607
    ∧ (Cls.c1 = .c1 ∧ { dearProfile with mapC1 := true }.mapC1 = true) ∧ dearProfile.mapC3 = false
    ∧ (Clock.mk true 1439 none).valid = true
    ∧ { dearProfile with peakHours := 0x800000#24 }.peakHours.getLsbD (1439 / 60) = true := by
  refine ⟨⟨?_, ?_, ?_, ?_, ?_⟩, ?_⟩
  · intro c; cases c <;> decide
  · decide
  · decide
  · intro c; cases c <;> decide
  · decide
  · decide

/-- A charge that saturates nothing, one of no units, and one of a full record, where every meter saturates. -/
theorem witness_AChargeBalances :
    (chargeRecord tenant7 41000000 .c2 1500).saturatedNow = false
    ∧ (chargeRecord tenant7 0 .c0 64).saturatedNow = false
    ∧ (chargeRecord { fullTenant with saturated := false, allowance := 0 } 41000000 .c2 1500).saturatedNow
        = true := by decide +kernel

theorem witness_ChargesOfOneTenantCommute : tenantInRange tenant7 ∧ tenantInRange vacantTenant := by
  constructor <;> refine ⟨by decide, by decide, by decide, fun c => ?_⟩ <;>
    (unfold metersInRange; cases c <;> decide)

theorem witness_ClockRequestsLoadAndRead :
    (Running (serving 11 [1439] busy) 11 (request 11 [1439]) true ∧ num (request 11 [1439]) 1 < 1440)
    ∧ (Running (serving 11 [1440] busy) 11 (request 11 [1440]) true ∧ 1440 ≤ num (request 11 [1440]) 1)
    ∧ (Running (serving 12 [] busy) 12 (request 12 []) true ∧ (serving 12 [] busy).clock.valid = false)
    ∧ ((serving 12 [] crossing).clock.valid = true ∧ (serving 12 [] crossing).clock.nextAdvance = some 60000000) :=
  ⟨⟨running_serving _ _ _ (by decide), by decide +kernel⟩,
    ⟨running_serving _ _ _ (by decide), by decide +kernel⟩,
    ⟨running_serving _ _ _ (by decide), rfl⟩, ⟨rfl, rfl⟩⟩

/-! ### Witnesses: frames and stations -/

/-- A frame of 64 bytes and one of 9,216 on D5 and on U3; one whose check fails; one that is too short. -/
theorem witness_AFrameBecomesItsCopiesOrNothing :
    let s := intakeState .throttled
    (FrameHandedOver s 5 true (frameBytes stationY stationX 0xA0#8 64)
      ∧ FrameAccepted s 5 (frameBytes stationY stationX 0xA0#8 64))
    ∧ (FrameHandedOver s 35 true (frameBytes stationY stationX 0xA0#8 9216)
      ∧ FrameAccepted s 35 (frameBytes stationY stationX 0xA0#8 9216))
    ∧ ¬FrameHandedOver s 5 false (frameBytes stationY stationX 0xA0#8 64)
    ∧ ¬FrameAccepted s 5 (frameBytes stationY stationX 0xA0#8 63)
    ∧ isGroup (readFrame (frameBytes stationY stationX 0xA0#8 64)).src = false
    ∧ isGroup (readFrame (frameBytes (List.replicate 6 0xFF#8) stationX 0xA0#8 64)).dst = true
    ∧ afterFrameA.lookup 230 0x020000000010#48 = some (.downlink 5)
    ∧ s.lookup 230 0x020000000010#48 = none
    ∧ 20 ≤ (frameBytes stationY stationX 0xA0#8 64).length := by
  unfold FrameHandedOver FrameAccepted; decide +kernel

theorem witness_TheClassFollowsTheTenantState :
    ((intakeState .active).tenant 230).state = .active
    ∧ ((intakeState .overage).tenant 230).state = .overage
    ∧ ((intakeState .throttled).tenant 230).state = .throttled ∧ ProfilesInRange (intakeState .throttled) := by
  refine ⟨rfl, rfl, rfl, fun n => ?_⟩
  have h : (intakeState .throttled).profile n
      = if n = 3 then { powerOnProfile with demotion := ⟨.c0, .c1, .c1, .c3⟩ } else powerOnProfile := by
    simp only [State.profile, intakeState, tableGet]
  rw [h]
  split <;> refine ⟨fun c => ?_, by decide, by decide, fun c => ?_, by decide⟩ <;> cases c <;> decide

/-- Station Y of tenant 7 on D5, LEARNED or STATIC, and a PATH entry; and a bucket with every way taken. -/
def stationState (e : Option Entry) (count : Nat) : State :=
  let b := 4 * stationBucket 7 0x020000000011#48
  { busy with
    tenants := [(7, { tenant7 with stationCount := count })]
    stations := match e with
      | some e => [(b, some e)]
      | none => [b, b + 1, b + 2, b + 3].map fun i =>
          (i, some { tenant := 9, address := 0#48, kind := .static, target := .path 0, lastSeen := 0 }) }

/-- An entry for station Y of tenant 7. -/
def entryY (k : EntryKind) (g : Target) : Entry :=
  { tenant := 7, address := 0x020000000011#48, kind := k, target := g, lastSeen := 0 }

theorem witness_LearningAndLookupReadTheBucket :
    let b := 4 * stationBucket 7 0x020000000011#48
    let y := 0x020000000011#48
    ((stationState (some (entryY .learned (.downlink 5))) 1).findEntry 7 y
      = some (b, entryY .learned (.downlink 5)))
    ∧ ((stationState (some (entryY .static (.path 63))) 1).findEntry 7 y
      = some (b, entryY .static (.path 63)))
    ∧ (busy.port 5).link = .up ∧ (busy.port 31).link ≠ .up
    ∧ (busy.findEntry 7 y = none ∧ busy.flushOutstanding 31 = false ∧ busy.freeSlot 7 y = some b
      ∧ (busy.tenant 7).stationCount < (busy.tenant 7).stationLimit)
    ∧ ((stationState none 0).findEntry 7 y = none ∧ (stationState none 0).freeSlot 7 y = none)
    ∧ ({ busy with jobs := { noJobs with ports := [31] } }.flushOutstanding 31 = true)
    ∧ (((stationState none 2).tenant 7).stationLimit ≤ ((stationState none 2).tenant 7).stationCount)
    ∧ (entryY .learned (.downlink 5)).target ≠ .downlink 31 := by decide +kernel

theorem witness_StationInsertWritesAStaticEntry :
    let a := [7, 0x11, 0x0200, 0x11F]
    let s := stationState (some (entryY .learned (.downlink 5))) 1
    (Running (serving 13 a busy) 13 (request 13 a) true ∧ num (request 13 a) 3 ≤ 65535
      ∧ 0x020000000011#48 = BitVec.ofNat 48 (num2 (request 13 a) 2) ∧ num (request 13 a) 1 < 1024
      ∧ isGroup 0x020000000011#48 = false ∧ targetOf (word (request 13 a) 4) = some (.downlink 31)
      ∧ ((serving 13 a busy).tenant 7).state.inContract = true)
    ∧ (s.findEntry 7 0x020000000011#48).isSome = true
    ∧ (busy.findEntry 7 0x020000000011#48 = none ∧ (busy.freeSlot 7 0x020000000011#48).isSome = true
      ∧ (busy.tenant 7).stationCount < (busy.tenant 7).stationLimit)
    ∧ (stationState none 0).freeSlot 7 0x020000000011#48 = none
    ∧ (busy.tenant 1023).state = .vacant
    ∧ ({ busy with tenants := [(1, { tenant7 with state := .draining })] }.tenant 1).state = .draining
    ∧ 1024 ≤ num (request 13 [1024]) 1 ∧ isGroup 0x010000000011#48 = true
    ∧ targetOf (0x120#32) = none ∧ targetOf (0x23F#32) = some (.path 63) :=
  ⟨⟨running_serving _ _ _ (by decide), by decide +kernel⟩, by decide +kernel⟩

theorem witness_StationRequestsAnswerAndLoad :
    let a := [7, 0x11, 0xFFFF]
    let s := stationState (some (entryY .learned (.downlink 5))) 1
    (Running (serving 14 a busy) 14 (request 14 a) true ∧ num (request 14 a) 3 ≤ 65535
      ∧ 0xFFFF00000011#48 = BitVec.ofNat 48 (num2 (request 14 a) 2) ∧ num (request 14 a) 1 < 1024
      ∧ (serving 14 a busy).findEntry 7 0xFFFF00000011#48 = none)
    ∧ Running (serving 15 a busy) 15 (request 15 a) true
    ∧ (s.findEntry 7 0x020000000011#48).isSome = true ∧ 1024 ≤ num (request 14 [1024]) 1
    ∧ (Running (serving 16 [65535, 255] busy) 16 (request 16 [65535, 255]) true
      ∧ num (request 16 [65535, 255]) 1 ≤ 65535 ∧ num (request 16 [65535, 255]) 2 ≤ 255) :=
  ⟨⟨running_serving _ _ _ (by decide), by decide +kernel⟩, running_serving _ _ _ (by decide),
    by decide +kernel, by decide +kernel, running_serving _ _ _ (by decide), by decide +kernel⟩

/-! ### Witnesses: path sets and pins -/

theorem witness_PathsetRequestsWriteAndRead :
    let a := [63, 1, 8, 0x107, 0x23F, 0x100, 0x100, 0x100, 0x100, 0x100, 0x100, 0x8000003F, 65535, 65535,
      65535, 65535]
    (Running (serving 17 a busy) 17 (request 17 a) true ∧ num (request 17 a) 1 < 64
      ∧ num (request 17 a) 3 ≤ 8 ∧ num (request 17 a) 2 = 1
      ∧ membersOf (request 17 a) 4 (num (request 17 a) 3)
        = some [.uplink 7, .redirect 63, .uplink 0, .uplink 0, .uplink 0, .uplink 0, .uplink 0, .uplink 0]
      ∧ optionalSet (request 17 a) 12 = some (some 63) ∧ num (request 17 a) 13 ≤ 65535
      ∧ num (request 17 a) 14 ≤ 65535 ∧ num (request 17 a) 15 ≤ 65535 ∧ num (request 17 a) 16 ≤ 65535)
    ∧ (Running (serving 17 [0, 0, 1, 0x108] busy) 17 (request 17 [0, 0, 1, 0x108]) true
      ∧ membersOf (request 17 [0, 0, 1, 0x108]) 4 1 = none)
    ∧ (64 ≤ num (request 17 [64]) 1 ∧ 2 ≤ num (request 17 [0, 2]) 2 ∧ 8 < num (request 17 [0, 0, 9]) 3)
    ∧ (Running (serving 18 [63] busy) 18 (request 18 [63]) true ∧ num (request 18 [63]) 1 < 64)
    ∧ (Running (serving 19 [8191] busy) 19 (request 19 [8191]) true ∧ num (request 19 [8191]) 1 < 8192)
    ∧ 8192 ≤ num (request 19 [8192]) 1 :=
  ⟨⟨running_serving _ _ _ (by decide), by decide +kernel⟩,
    ⟨running_serving _ _ _ (by decide), by decide +kernel⟩, by decide +kernel,
    ⟨running_serving _ _ _ (by decide), by decide +kernel⟩,
    ⟨running_serving _ _ _ (by decide), by decide +kernel⟩, by decide +kernel⟩

/-- 5.7 again: with U1 SUSPECT the pick value 1 of set 12 passes on to index 2; set 14 takes its cursor's
index, from 3 on to 0 when U7 is SUSPECT; with U4 to U7 held it has nothing usable, and set 63 is EMPTY. -/
theorem witness_AWalkEndsAtAUsableUplink :
    let s := chain 2 u1Suspect
    let v := chain 3 [(39, { upPort with link := .suspect })]
    let w := chain 2 u4to7Held
    ((chain 2 []).freshResolution (copyFor (.resolve 12) .c1 1000003) 12).outcome = .reached ⟨12, 1⟩ 1
    ∧ ((chain 2 []).pathSet 12).mode = .hashed
    ∧ Chosen s.memberUsable (tableGet emptyPathSet s.pathSets 12) 1000003 2 (.redirect 14)
    ∧ Chosen s.memberUsable (tableGet emptyPathSet s.pathSets 14) 1000003 2 (.uplink 6)
    ∧ Chosen v.memberUsable (tableGet emptyPathSet v.pathSets 14) 1000003 0 (.uplink 4)
    ∧ (NothingUsable w.memberUsable (tableGet emptyPathSet w.pathSets 14)
      ∧ (tableGet emptyPathSet w.pathSets 14).fallback = some 13)
    ∧ (NothingUsable w.memberUsable (tableGet emptyPathSet w.pathSets 63)
      ∧ (tableGet emptyPathSet w.pathSets 63).fallback = none) := by
  refine ⟨by decide +kernel, by decide +kernel,
    ⟨by decide +kernel, by decide +kernel, 1, 1, by decide, by decide, by decide, by decide, fun e he x hx => ?_⟩,
    ⟨by decide +kernel, by decide +kernel, 2, 0, by decide, by decide, by decide, by decide,
      fun e he => absurd he (Nat.not_lt_zero e)⟩,
    ⟨by decide +kernel, by decide +kernel, 3, 1, by decide, by decide, by decide, by decide, fun e he x hx => ?_⟩,
    ?_, ?_⟩
  · obtain rfl : e = 0 := Nat.lt_one_iff.mp he
    obtain rfl : Member.uplink 1 = x := Option.some.inj hx
    decide +kernel
  · obtain rfl : e = 0 := Nat.lt_one_iff.mp he
    obtain rfl : Member.uplink 7 = x := Option.some.inj hx
    decide +kernel
  · unfold NothingUsable; decide +kernel
  · unfold NothingUsable; decide +kernel

/-- Sets 1 to 4 each lead to the next, and set 5 lists U7; sets 20 and 21 lead to each other. -/
def straight : State :=
  { chain 2 [] with
    pathSets :=
      [(1, { emptyPathSet with members := [.redirect 2] }), (2, { emptyPathSet with members := [.redirect 3] }),
        (3, { emptyPathSet with members := [.redirect 4] }), (4, { emptyPathSet with members := [.redirect 5] }),
        (5, { emptyPathSet with members := [.uplink 7] }), (6, { emptyPathSet with fallback := some 6 }), (20, { emptyPathSet with members := [.redirect 21] }),
        (21, { emptyPathSet with members := [.redirect 20] })] }

/-- Five visits that go on, by redirects of sets 20 and 21 and by set 6's fallback to itself; an uplink chosen
at the fifth visit; an EMPTY set without fallback; home walks in set 5, in set 20 and in an EMPTY set. -/
theorem witness_AWalkEntersAtMostFiveSets :
    let f : Nat → Fin 64 := fun i => if i % 2 = 0 then 20 else 21
    let g : Nat → Fin 64 := fun i => Fin.ofNat 64 (i + 1)
    ((∀ i, i < 5 → (straight.pathSet (f i)).members = [.redirect (f (i + 1))])
    ∧ ((∀ i, i < 4 → (straight.pathSet (g i)).members = [.redirect (g (i + 1))])
      ∧ (straight.pathSet (g 4)).members = [.uplink 7] ∧ straight.memberUsable (.uplink 7) = true)
    ∧ (straight.pathSet 63).members = [] ∧ (straight.pathSet 63).fallback = none)
    ∧ (∀ i, i < 5 → VisitGoesOn straight.memberUsable 1 6 straight.pathSets 6 straight.pathSets)
    ∧ (∀ i, i < 4 → VisitGoesOn straight.memberUsable 1 (g i) straight.pathSets (g (i + 1)) straight.pathSets)
    ∧ Chosen straight.memberUsable (tableGet emptyPathSet straight.pathSets (g 4)) 1 0 (.uplink 7)
    ∧ NothingUsable straight.memberUsable (tableGet emptyPathSet straight.pathSets 63)
    ∧ ((tableGet emptyPathSet straight.pathSets 5).members[1 % 1]? = some (.uplink 7)
      ∧ (tableGet emptyPathSet straight.pathSets 20).members[1 % 1]? = some (.redirect 21)) := by
  refine ⟨by decide +kernel, fun i _ => Or.inl ⟨by unfold NothingUsable; decide +kernel, by decide +kernel, rfl⟩,
    fun i hi => Or.inr ⟨0, ?_, ?_⟩, ?_, by unfold NothingUsable; decide +kernel, by decide +kernel⟩
  · have h : i = 0 ∨ i = 1 ∨ i = 2 ∨ i = 3 := by omega
    rcases h with rfl | rfl | rfl | rfl <;>
      exact ⟨by decide +kernel, by decide +kernel, 0, 0, by decide +kernel, by decide +kernel, by decide +kernel,
        by decide +kernel, fun e he => absurd he (Nat.not_lt_zero e)⟩
  · have h : i = 0 ∨ i = 1 ∨ i = 2 ∨ i = 3 := by omega
    rcases h with rfl | rfl | rfl | rfl <;> decide +kernel
  · exact ⟨by decide +kernel, by decide +kernel, 0, 0, by decide +kernel, by decide +kernel, by decide +kernel,
      by decide +kernel, fun e he => absurd he (Nat.not_lt_zero e)⟩

/-- A free slot, and a slot held by another check for 399 of the 400 µs of its set's FLOWLET gap, and for 400. -/
theorem witness_ACopyWithNoPinOfItsOwnWalks :
    let c := copyFor (.resolve 12) .c1 300001
    let s := flowF 5000499 2 [] { pinF with check := 41002#16 }
    let s' := flowF 5000500 2 [] { pinF with check := 41002#16 }
    let v := flowF 5000499 2 [] powerOnPin
    (s.nextCopy 0 = some c ∧ c.dest = .resolve 12 ∧ (s.freshResolution c 12).outcome = .reached ⟨12, 1⟩ 1
      ∧ ¬((s.pin c.pinSlot).valid = true ∧ (s.pin c.pinSlot).check = c.pinCheck
        ∧ (s.pin c.pinSlot).origin = 12))
    ∧ ((s.pin c.pinSlot).valid = true
      ∧ s.timebase - (s.pin c.pinSlot).lastUse < (s.pathSet (s.pin c.pinSlot).current.set).flowlet)
    ∧ (s'.freshResolution c 12).outcome = .reached ⟨12, 1⟩ 1
    ∧ (s'.pathSet (s'.pin c.pinSlot).current.set).flowlet ≤ s'.timebase - (s'.pin c.pinSlot).lastUse
    ∧ (v.nextCopy 0 = some c ∧ (v.freshResolution c 12).outcome = .reached ⟨12, 1⟩ 1
      ∧ (v.pin c.pinSlot).valid = false)
    ∧ (s.inFlight[0]? = some (c :: []) ∧ [[], [c, c]][1]? = some (c :: [c])) := by decide +kernel

/-- A matched pin whose set lists only U1, SUSPECT; and 5.9 with a free slot. -/
theorem witness_AWalkThatFailsDropsTheCopy :
    let c := copyFor (.resolve 12) .c1 300001
    let s := { flowF 5000200 2 u1Suspect { pinF with current := ⟨12, 0⟩ } with
      pathSets := [(12, { emptyPathSet with members := [.uplink 1] })] }
    let d := copyFor (.resolve 20) .c1 1
    let t := { chain 2 [] with inFlight := [[d]] }
    (s.nextCopy 0 = some c ∧ c.dest = .resolve 12 ∧ pinMatches (s.pin c.pinSlot) c 12 = true
      ∧ s.placeUsable (s.pin c.pinSlot).current = false ∧ (s.freshResolution c 12).outcome = .noPath)
    ∧ (t.nextCopy 0 = some d ∧ d.dest = .resolve 20 ∧ pinMatches (t.pin d.pinSlot) d 20 = false
      ∧ (t.freshResolution d 20).outcome = .chainFault) := by decide +kernel

/-- 6.8, events 3, 5 and 4, and 6.9, copy 2: the fault move, the restore, staying, the congestion move. -/
theorem witness_AMatchedPinMovesInOrder :
    let c := copyFor (.resolve 12) .c1 300001
    let fault := flowF 5000200 2 u1Suspect pinF
    let home := flowF 5120000 3 [] { pinF with current := ⟨14, 2⟩, lastUse := 5020000 }
    let away := flowF 5119999 3 [] { pinF with current := ⟨14, 2⟩, lastUse := 5020000 }
    let h := copyFor (.resolve 40) .c2 1
    let full := flowH 9009500 280 600 9004500
    (fault.nextCopy 0 = some c ∧ c.dest = .resolve 12 ∧ (fault.pin c.pinSlot).valid = true
      ∧ (fault.pin c.pinSlot).check = c.pinCheck ∧ (fault.pin c.pinSlot).origin = 12
      ∧ fault.placeUsable (fault.pin c.pinSlot).current = false
      ∧ (fault.freshResolution c 12).outcome = .reached ⟨14, 2⟩ 6)
    ∧ (home.nextCopy 0 = some c ∧ home.placeUsable (home.pin c.pinSlot).current = true
      ∧ RestoreHolds home (home.pin c.pinSlot) c.cls ∧ home.uplinkOf (home.pin c.pinSlot).home = some 1)
    ∧ (away.nextCopy 0 = some c ∧ away.placeUsable (away.pin c.pinSlot).current = true
      ∧ ¬RestoreHolds away (away.pin c.pinSlot) c.cls
      ∧ away.uplinkOf (away.pin c.pinSlot).current = some 6
      ∧ ¬CongestionHolds away (away.pin c.pinSlot) 6 c.cls)
    ∧ (full.nextCopy 0 = some h ∧ h.dest = .resolve 40 ∧ (full.pin h.pinSlot).valid = true
      ∧ (full.pin h.pinSlot).check = h.pinCheck ∧ (full.pin h.pinSlot).origin = 40
      ∧ full.placeUsable (full.pin h.pinSlot).current = true
      ∧ ¬RestoreHolds full (full.pin h.pinSlot) h.cls
      ∧ full.uplinkOf (full.pin h.pinSlot).current = some 1
      ∧ CongestionHolds full (full.pin h.pinSlot) 1 h.cls
      ∧ full.candidates (full.pin h.pinSlot).current.set 1 h.cls = [(0, 0), (2, 2)]
      ∧ full.occupancy 32 h.cls < full.occupancy 34 h.cls) := by
  unfold RestoreHolds CongestionHolds; decide +kernel

theorem witness_APinMovesOnlyAfterItsGap :
    let c := copyFor (.resolve 40) .c2 1
    let s := flowH 9009500 280 600 9004500
    (s.nextCopy 0 = some c ∧ c.dest = .resolve 40 ∧ pinMatches (s.pin c.pinSlot) c 40 = true
      ∧ s.placeUsable (s.pin c.pinSlot).current = true)
    ∧ (∃ t, exec (.resolutionEvent 0) s = .next t)
    ∧ ((after (exec (.resolutionEvent 0) s)).pin c.pinSlot).current ≠ (s.pin c.pinSlot).current :=
  ⟨by decide +kernel, ⟨_, rfl⟩, by decide +kernel⟩

/-! ### Witnesses: buffer, queues and pause control -/

/-- 7.9 with a threshold met exactly, and one cell short of it; a lossless copy that reaches pause-on and
starts the storm timer of a PAUSED queue; and one that meets a running timer. -/
theorem witness_AdmissionQueuesOrDropsTheCopy :
    let c := { copyFor (.downlink 6) .c0 0 with throttled := true, len := 2000, cells := 10 }
    let s := { nearlyFull (.downlink 6) with inFlight := [[c]] }
    let c' := { c with cells := 11 }
    let s' := { nearlyFull (.downlink 6) with inFlight := [[c']] }
    let d := { copyFor (.uplink 7) .c2 0 with tenant := 7, len := 9216, cells := 36 }
    let u := { busy with
      ports := [(3, { upPort with losslessCount := 988 }),
        (39, { upPort with c2State := .paused, pauseEnd := some 2000000 })]
      inFlight := [[d]] }
    let v := { u with ports := [(39, { upPort with
      queues := ⟨[], [], [heldFrame .c2 1], []⟩, c2State := .paused, pauseEnd := some 2000000
      storm := some ⟨900000, 1100000⟩ })] }
    (s.nextCopy 0 = some c ∧ c.dest.egressPort = some 6 ∧ CopyPasses s c (6 : Fin 40))
    ∧ (s'.nextCopy 0 = some c' ∧ c'.dest.egressPort = some 6 ∧ ¬CopyPasses s' c' (6 : Fin 40))
    ∧ (u.nextCopy 0 = some d ∧ d.dest.egressPort = some 39 ∧ CopyPasses u d (39 : Fin 40)
      ∧ (u.port d.ingress).ingress = .flowing ∧ (u.pauseOf d.ingress).pauseOn = 988 + d.cells
      ∧ (u.port 39).c2State = .paused ∧ (u.port 39).storm = none)
    ∧ (v.nextCopy 0 = some d ∧ CopyPasses v d (39 : Fin 40) ∧ portTimed (v.port 39)
      ∧ (v.port 39).storm ≠ none)
    ∧ (portTimed (s.port 6) ∧ c.cls ≠ .c2) := by
  refine ⟨?_, ?_, ?_, ?_, ?_⟩ <;> (try unfold CopyPasses) <;> (try unfold portTimed) <;> decide +kernel

/-- A frame of 20 bytes on the wire; a C3 frame; a C2 frame with C3 empty; and, with C2 PAUSED, a C0 frame three
turns on. -/
theorem witness_AStartTakesTheScheduledFrame :
    let r := { upPort with queues := ⟨[heldFrame .c0 1], [], [heldFrame .c2 1], [heldFrame .c3 1]⟩ }
    let r' := { upPort with queues := ⟨[], [], [heldFrame .c2 1], []⟩, rotation := 3 }
    let q := (rotating [] [] [heldFrame .c0 1] 0).port 34
    let f := { heldFrame .c1 1 with
      data := List.replicate 20 0#8, tag := ⟨1023, .c3, true, true, 0xFFFFFFFF#32⟩ }
    let o := { upPort with queues := ⟨[], [f], [], []⟩, transmitter := .frame .c1 }
    (o.transmitter = .frame .c1 ∧ o.queues.get .c1 = f :: [] ∧ 20 ≤ f.data.length ∧ f.tag.tenant < 1024)
    ∧ (r.transmitter = .idle ∧ r.link = .up ∧ r.slot = none
      ∧ r.queues.get .c3 = heldFrame .c3 1 :: [] ∧ r.rotation = r.rotation)
    ∧ (r'.transmitter = .idle ∧ r'.queues.get .c2 = heldFrame .c2 1 :: [] ∧ r'.queues.c3 = []
      ∧ r'.c2State = .ready)
    ∧ (q.transmitter = .idle ∧ q.link = .up ∧ q.slot = none ∧ q.queues.get .c0 = heldFrame .c0 1 :: []
      ∧ q.queues.c3 = [] ∧ q.c2State ≠ .ready ∧ Cls.c0 = rotationClass (q.rotation + 3)
      ∧ ∀ e : Fin 4, e < 3 → q.queues.get (rotationClass (q.rotation + e)) = []) := by decide +kernel

/-- `busy` with D3 PAUSING, whose count falls to pause-off when D5's frame leaves. -/
def pausing : State :=
  { busy with
    ports := (3, { upPort with losslessCount := 520, ingress := .pausing, renewal := some 1010000 })
      :: busy.ports.drop 1 }

/-- A charged completion, an uncharged one, one that ends a DRAINING tenant, and one whose ingress port falls
to pause-off exactly. -/
theorem witness_ACompletionReleasesAndCharges :
    ((crossing.port 5).transmitter = .frame .c2
      ∧ crossing.queue 5 .c2 = { heldFrame .c2 6 with tenant := 52, len := 1500 } :: []
      ∧ (heldFrame .c2 6).uncharged = false ∧ (crossing.tenant 52).state.inContract = true)
    ∧ (let s := { busy with tenants := [(7, { tenant7 with state := .draining })] }
      (s.port 5).transmitter = .frame .c2 ∧ s.queue 5 .c2 = heldFrame .c2 8 :: []
      ∧ (s.tenant 7).state = .draining ∧ (s.tenant 7).inBuffer ≤ 1 ∧ s.purgeOutstanding 7 = false)
    ∧ (let s := { busy with
        tenants := [(7, { tenant7 with state := .draining })], jobs := { noJobs with tenants := [7] } }
      s.queue 5 .c2 = heldFrame .c2 8 :: [] ∧ (s.tenant 7).state.inContract = false
      ∧ s.purgeOutstanding 7 = true)
    ∧ portTimed (busy.port 5)
    ∧ (pausing.port 3).ingress = .pausing
    ∧ ((after (exec (.transmissionCompletion 5) pausing)).port 3).losslessCount = (pausing.pauseOf 3).pauseOff
    := by unfold portTimed; decide +kernel

theorem witness_LeavingUpAbortsTheFrame :
    (busy.port 5).transmitter = .frame .c2 ∧ busy.queue 5 .c2 = heldFrame .c2 8 :: []
    ∧ (busy.port 3).transmitter = .idle ∧ portTimed (busy.port 5)
    ∧ ReturnsToVacant { busy with tenants := [(7, { tenant7 with state := .draining })] } 7 1
    ∧ ¬ReturnsToVacant busy 7 1
    ∧ ((leaveUp 5 .suspect pausing).port 3).losslessCount = (pausing.pauseOf 3).pauseOff := by
  unfold portTimed ReturnsToVacant; decide +kernel

theorem witness_DownEffectsEmptyThePort :
    (∀ c, ∀ f ∈ busy.queue 5 c, f.cls = c)
    ∧ ReturnsToVacant { busy with tenants := [(7, { tenant7 with state := .draining })] } 7
        (portFramesOf 7 (busy.port 5))
    ∧ ((downEffects 5 pausing).port 3).losslessCount = (pausing.pauseOf 3).pauseOff := by
  refine ⟨fun c => by cases c <;> decide +kernel, ?_, by decide +kernel⟩
  unfold ReturnsToVacant; decide +kernel

theorem witness_PolicyAndQueueRequests :
    let a := [1, 0, 98305, 98305, 98305, 98305]
    let b := [0, 2, 98304, 98305, 98305, 98305]
    (Running (serving 20 a busy) 20 (request 20 a) true ∧ num (request 20 a) 1 = 1
      ∧ num (request 20 a) 2 = Cls.number .c0)
    ∧ (Running (serving 20 b busy) 20 (request 20 b) true ∧ num (request 20 b) 1 = 0
      ∧ num (request 20 b) 2 = Cls.number .c2)
    ∧ (2 ≤ num (request 20 [2, 3]) 1 ∧ 4 ≤ num (request 20 [1, 4]) 2)
    ∧ (Running (serving 21 [5, 2] busy) 21 (request 21 [5, 2]) true ∧ num (request 21 [5, 2]) 1 = 5
      ∧ num (request 21 [5, 2]) 2 = Cls.number .c2
      ∧ ((serving 21 [5, 2] busy).port 5).transmitter = .frame .c2)
    ∧ ((num (request 21 [39, 3]) 1 = 39 ∧ num (request 21 [39, 3]) 2 = Cls.number .c3)
      ∧ 40 ≤ num (request 21 [40, 3]) 1) :=
  ⟨⟨running_serving _ _ _ (by decide), by decide +kernel⟩,
    ⟨running_serving _ _ _ (by decide), by decide +kernel⟩, by decide +kernel,
    ⟨running_serving _ _ _ (by decide), by decide +kernel⟩, by decide +kernel⟩

/-- A pause of 18 bytes and duration 65,535; a resume; a queue in each of its three states. -/
theorem witness_APauseMessageActsByTheQueueState :
    let m := List.replicate 12 0#8 ++ [0xB7#8, 0xA5#8, 2#8, 0#8, 0xFF#8, 0xFF#8]
    let r := (storming 1000000 upPort).port 34
    (18 ≤ m.length ∧ isPauseMessage m = true ∧ (m.getD 14 0#8).toNat % 4 = 2
      ∧ 256 * (m.getD 16 0#8).toNat + (m.getD 17 0#8).toNat = 65535)
    ∧ (r.link = .up ∧ r.c2State = .ready ∧ portTimed r)
    ∧ (isPauseMessage (pauseFrame 0#8 0#8) = true
      ∧ portTimed { r with c2State := .paused, pauseEnd := some 2, storm := some ⟨1, 3⟩ })
    ∧ portTimed { upPort with c2State := .stalled }
    ∧ isPauseMessage (List.replicate 18 0#8) = false := by
  unfold portTimed; decide +kernel

theorem witness_PauseTimersAndMessagesTakeTheirTurn :
    let s := { State.reset with
      timebase := 10100
      ports := [(3, { upPort with losslessCount := 512, ingress := .pausing, renewal := some 10100 }),
        (4, { upPort with slot := some .resume }), (5, { upPort with transmitter := .control .resume }),
        (39, { upPort with c2State := .paused, pauseEnd := some 10100 })] }
    ((s.port 3).ingress = .pausing ∧ (s.port 3).renewal = some 10100
      ∧ (s.port 3).losslessCount ≤ (s.pauseOf 3).pauseOff)
    ∧ ((s.port 4).transmitter = .idle ∧ (s.port 4).link = .up ∧ (s.port 4).slot = some .resume)
    ∧ (s.port 5).transmitter = .control .resume
    ∧ ((s.port 39).c2State = .paused ∧ (s.port 39).pauseEnd = some 10100)
    ∧ (upPort.ingress = .flowing ∧ (powerOnPauseSettings.get .downlink).pauseOn
      ≤ { upPort with losslessCount := 1024 }.losslessCount)
    ∧ ({ upPort with transmitter := .control (.pause 65535) }.transmitter = .control (.pause 65535)
      ∧ 65535 ≤ 65535) := by decide +kernel

theorem witness_AStormStallsAndARecoveryEnds :
    let r := { upPort with c2State := .paused, pauseEnd := some 1210000, storm := some ⟨1000000, 1200000⟩ }
    let s := storming 1200000 r
    ((s.port 34).storm = some ⟨1000000, 1200000⟩ ∧ 1200000 ≤ s.timebase
      ∧ ∀ f ∈ s.queue 34 .c2, f.cls = .c2)
    ∧ ReturnsToVacant { busy with tenants := [(7, { tenant7 with state := .draining })] } 7
        (framesOf 7 (busy.queue 5 .c2))
    ∧ ({ busy with ports := [(39, { upPort with recoveryEnd := some 1000000 })] }.port 39).recoveryEnd
        = some 1000000 := by
  unfold ReturnsToVacant; decide +kernel

theorem witness_PauseRequestsWriteAndRead :
    (Running (serving 22 [1, 98305, 98305, 65535] busy) 22 (request 22 [1, 98305, 98305, 65535]) true
      ∧ num (request 22 [1, 98305, 98305, 65535]) 4 ≤ 65535 ∧ num (request 22 [1, 98305, 98305, 65535]) 1 = 1)
    ∧ (Running (serving 22 [0, 0, 0, 0] busy) 22 (request 22 [0, 0, 0, 0]) true
      ∧ num (request 22 [0, 0, 0, 0]) 1 = 0 ∧ ((serving 22 [0, 0, 0, 0] busy).port 3).ingress = .flowing)
    ∧ ({ busy with ports := [(3, { upPort with ingress := .pausing, renewal := some 2000000 })] }.port 3).ingress
        = .pausing
    ∧ 2 ≤ num (request 22 [2]) 1
    ∧ (Running (serving 23 [39] busy) 23 (request 23 [39]) true ∧ num (request 23 [39]) 1 = 39)
    ∧ 40 ≤ num (request 23 [40]) 1 :=
  ⟨⟨running_serving _ _ _ (by decide), by decide +kernel⟩,
    ⟨running_serving _ _ _ (by decide), by decide +kernel⟩, by decide +kernel, by decide +kernel,
    ⟨running_serving _ _ _ (by decide), by decide +kernel⟩, by decide +kernel⟩

/-! ### Witnesses: the link monitor and the sweeper -/

/-- Port 39 in a link state and a lane status, its timers at now. -/
def linkAt (l : LinkState) (lane : LaneStatus) : State :=
  { busy with
    ports := [(39, { powerOnPort with
      link := l, lane := lane, debounceEnd := some 1000000, holdDownEnd := some 1000000 })] }

theorem witness_LinkEventsActByTheLinkState :
    (∀ l, ((linkAt l .locked).port 39).lane = .locked ∧ ((linkAt l .locked).port 39).link = l)
    ∧ (∀ l, ((linkAt l .lost).port 39).lane = .lost ∧ ((linkAt l .lost).port 39).link = l)
    ∧ ((linkAt .suspect .lost).port 39).debounceEnd = some 1000000
    ∧ ((linkAt .proving .locked).port 39).holdDownEnd = some 1000000
    ∧ 1000000 ≤ (linkAt .proving .locked).timebase := by
  refine ⟨fun l => ?_, fun l => ?_, rfl, rfl, by decide⟩ <;> cases l <;> exact ⟨rfl, rfl⟩

/-- A history of eight within the window, and of none; the penalty met at exactly the threshold. -/
theorem witness_FlapHistoryAndHoldDown :
    [1, 2, 3, 4, 5, 6, 7, 8].length ≤ 8
    ∧ ([1, 2, 3, 4, 5, 6, 7, 8].filter fun x => 60000001 - x ≤ 1000000 * 60).length = 8
    ∧ ([1, 2, 3, 4, 5, 6, 7, 8].filter fun x => 60000002 - x ≤ 1000000 * 60).length < 8
    ∧ 3 ≤ ([1, 2, 60000001].filter fun x => 60000001 - x ≤ 1000000 * 60).length
    ∧ ([0, 2, 60000001].filter fun x => 60000001 - x ≤ 1000000 * 60).length < 3
    ∧ { powerOnPort with recoveryEnd := some 9 }.recoveryEnd = some 9 ∧ powerOnPort.recoveryEnd = none := by
  decide +kernel

theorem witness_LinkAdminMovesThePort :
    (∀ l, let s := serving 24 [39, 0] (linkAt l .locked)
      Running s 24 (request 24 [39, 0]) true ∧ num (request 24 [39, 0]) 1 = 39
      ∧ num (request 24 [39, 0]) 2 = 0 ∧ (s.port 39).link = l)
    ∧ (∀ lane, let s := serving 24 [39, 1] (linkAt .adminDown lane)
      Running s 24 (request 24 [39, 1]) true ∧ num (request 24 [39, 1]) 2 = 1 ∧ (s.port 39).lane = lane)
    ∧ 40 ≤ num (request 24 [40, 1]) 1 ∧ 2 ≤ num (request 24 [39, 2]) 2 := by
  refine ⟨fun l => ?_, fun lane => ?_, by decide +kernel, by decide +kernel⟩
  · exact ⟨running_serving _ _ _ (by decide), by decide +kernel, by decide +kernel, by cases l <;> rfl⟩
  · exact ⟨running_serving _ _ _ (by decide), by decide +kernel, by cases lane <;> rfl⟩

theorem witness_LinkSettingRequests :
    let a := [0, 60001, 600, 8, 3601, 256, 99]
    let g : LinkSettings := ⟨1, 60000, 600, 8, 3600, 255, 100⟩
    (Running (serving 25 a busy) 25 (request 25 a) true
      ∧ g.debounceMs = (if num (request 25 a) 1 = 0 then 1 else if 1000 < num (request 25 a) 1 then 1000
        else num (request 25 a) 1)
      ∧ g.baseMs = (if 60000 < num (request 25 a) 2 then 60000 else num (request 25 a) 2)
      ∧ g.penaltyS = (if 600 < num (request 25 a) 3 then 600 else num (request 25 a) 3)
      ∧ g.threshold = (if num (request 25 a) 4 = 0 then 1 else if 8 < num (request 25 a) 4 then 8
        else num (request 25 a) 4)
      ∧ g.windowS = (if num (request 25 a) 5 = 0 then 1 else if 3600 < num (request 25 a) 5 then 3600
        else num (request 25 a) 5)
      ∧ g.stormBudget = (if 255 < num (request 25 a) 6 then 255 else num (request 25 a) 6)
      ∧ g.recoveryMs = (if num (request 25 a) 7 < 100 then 100 else if 60000 < num (request 25 a) 7
        then 60000 else num (request 25 a) 7))
    ∧ (Running (serving 26 [39] busy) 26 (request 26 [39]) true ∧ num (request 26 [39]) 1 < 40)
    ∧ 40 ≤ num (request 26 [40]) 1 :=
  ⟨⟨running_serving _ _ _ (by decide), by decide +kernel⟩,
    ⟨running_serving _ _ _ (by decide), by decide +kernel⟩, by decide +kernel⟩

/-- Each job alone starts a pass; the last station slot and the last pin slot; an entry that the purge removes,
one stale at exactly the interval, one that stays; a pin idle for exactly the expiry. -/
theorem witness_APassCarriesItsJobsToEverySlot :
    (∀ j ∈ [{ noJobs with aging := true }, { noJobs with ports := [31] }, { noJobs with tenants := [1023] },
        { noJobs with sets := [63] }],
      { busy with jobs := j }.pass = none
        ∧ (j.aging = true ∨ j.ports ≠ [] ∨ j.tenants ≠ [] ∨ j.sets ≠ []))
    ∧ ((sweeping .stations 16383).pass.map Pass.position = some 16383
      ∧ (sweeping .stations 16383).station 16383 = none)
    ∧ ((sweeping .stations 300).station 300).isSome = true
    ∧ ((sweeping .stations 9000).station 9000).isSome = true
    ∧ ((sweeping .pins 8191).pass.map Pass.position = some 8191 ∧ ((sweeping .pins 8191).pin 8191).valid = false)
    ∧ (1000000 * State.reset.pinExpiry
      ≤ { sweeping .pins 5000 with timebase := 399000000 }.timebase - ((sweeping .pins 5000).pin 5000).lastUse)
    ∧ (Running (serving 27 [1023] (sweeping .pins 8191)) 27 (request 27 [1023]) true
      ∧ num (request 27 [1023]) 1 < 1024)
    ∧ 1024 ≤ num (request 27 [1024]) 1 :=
  ⟨by decide +kernel, by decide +kernel, by decide +kernel, by decide +kernel, by decide +kernel,
    by decide +kernel, ⟨running_serving _ _ _ (by decide), by decide +kernel⟩, by decide +kernel⟩

/-- A carried tenant that becomes VACANT, and one whose purge is pending again. -/
theorem witness_APassEndReportsTheCarriedJobs :
    let s := sweeping .pins 8192
    s.pass = some { carried := { aging := true, ports := [6], tenants := [117], sets := [14] },
                    phase := .pins, position := 8192 }
    ∧ (117 ∈ [117] ∧ (s.tenant 117).state = .draining ∧ (s.tenant 117).inBuffer = 0 ∧ 117 ∉ s.jobs.tenants)
    ∧ 117 ∈ { s with jobs := { noJobs with tenants := [117] } }.jobs.tenants := by decide +kernel

/-! ### Witnesses: the laws, on a state with a frame held and in transmission -/

/-- `busy`, whose next command is a completion, and a step of it. -/
def busyNext : State := { busy with pending := [.transmissionCompletion 5] }

theorem busyNext_steps : ∃ t, step busyNext = .next t := ⟨_, rfl⟩

theorem witness_EveryStepKeepsTheFreeCount : FreeCountLaw busyNext ∧ ∃ t, step busyNext = .next t :=
  ⟨by unfold FreeCountLaw; decide +kernel, busyNext_steps⟩

theorem busy_framesOf (t p : Nat) :
    portFramesOf t (busy.port p) = if t = 7 ∧ p = 5 then 1 else 0 := by
  rw [busy_port]
  by_cases h3 : p = 3
  · subst h3; simp [portFramesOf, framesOf, upPort, powerOnPort]
  · by_cases h5 : p = 5
    · subst h5
      by_cases h : 7 = t
      · subst h; decide
      · have h' : ¬t = 7 := fun e => h e.symm
        simp [portFramesOf, framesOf, upPort, powerOnPort, heldFrame, h, h']
    · simp [h3, h5, portFramesOf, framesOf, powerOnPort]

theorem witness_EveryStepKeepsTheInBufferCounts : InBufferLaw busyNext ∧ ∃ t, step busyNext = .next t := by
  refine ⟨fun t => ?_, busyNext_steps⟩
  show (busy.tenant t).inBuffer = ((List.range 40).map fun p => portFramesOf t (busy.port p)).sum
  simp only [busy_framesOf, busy_tenant]
  by_cases h : t = 7
  · subst h; decide
  · simp [h, vacantTenant]

theorem witness_EveryStepKeepsTheLosslessCounts :
    LosslessLaw busyNext ∧ ∃ t, step busyNext = .next t := by
  refine ⟨⟨fun p c => ?_, ?_⟩, busyNext_steps⟩
  · show ∀ f ∈ (busy.port p).queues.get c, f.cls = c
    rw [busy_port]
    split
    · cases c <;> decide
    · split <;> cases c <;> decide
  · decide +kernel

theorem witness_EveryStepKeepsQuietPortsEmpty : PortsQuiet busyNext ∧ ∃ t, step busyNext = .next t := by
  refine ⟨fun p => ?_, busyNext_steps⟩
  show portQuiet (busy.port p)
  rw [busy_port]
  unfold portQuiet
  split
  · decide
  · split <;> decide

/-- `pausing`, whose next command is the completion that ends the pause of D3. -/
def pausingNext : State := { pausing with pending := [.transmissionCompletion 5] }

theorem witness_EveryStepKeepsPortsConsistent :
    (PortsTimed busyNext ∧ PortsSend busyNext ∧ PausesSound pausingNext)
    ∧ (∃ t, step busyNext = .next t) ∧ ∃ t, step pausingNext = .next t := by
  refine ⟨⟨fun p => ?_, fun p => ?_, fun k => by cases k <;> decide, ?_⟩, busyNext_steps, ⟨_, rfl⟩⟩
  · show portTimed (busy.port p)
    rw [busy_port]
    unfold portTimed
    split
    · decide
    · split <;> decide
  · show portSends (busy.port p)
    rw [busy_port]
    refine ⟨?_, fun c => ?_⟩
    · split
      · decide
      · split <;> decide
    · split
      · cases c <;> decide
      · split <;> cases c <;> decide
  · decide +kernel

theorem busy_profile (n : Nat) : busyNext.profile n = powerOnProfile := rfl

theorem busyNext_tenant (t : Nat) : busyNext.tenant t = if t = 7 then tenant7 else vacantTenant :=
  busy_tenant t

theorem witness_EveryStepKeepsTenantAndProfileRecords :
    (TenantsSound busyNext ∧ TenantsInRange busyNext ∧ ProfilesInRange busyNext)
    ∧ ∃ t, step busyNext = .next t := by
  refine ⟨⟨fun t => ?_, fun t => ?_, fun n => ?_⟩, busyNext_steps⟩
  · rw [busyNext_tenant]
    unfold tenantSound
    split <;> decide
  · rw [busyNext_tenant]
    split <;> refine ⟨by decide, by decide, by decide, fun c => ?_⟩ <;> (unfold metersInRange; cases c <;> decide)
  · rw [busy_profile]
    refine ⟨fun c => ?_, by decide, by decide, fun c => ?_, by decide⟩ <;> cases c <;> decide

theorem witness_EveryStepKeepsHistoriesAndQueuesBounded :
    (FlapsSound busyNext ∧ EngineBounds busyNext ∧ AgingSound busyNext
      ∧ AgingSound { State.reset with timebase := 10000000, pending := [.agingPosting] })
    ∧ ∃ t, step busyNext = .next t := by
  refine ⟨⟨fun p => ?_, by unfold EngineBounds; decide +kernel, by unfold AgingSound; decide,
    by unfold AgingSound; decide⟩, busyNext_steps⟩
  show flapsSound 1000000 (busy.port p).flapHistory
  rw [busy_port]
  unfold flapsSound
  split
  · decide
  · split <;> decide

theorem witness_EveryStepKeepsTheCanonicalForm : Canonical busyNext ∧ ∃ t, step busyNext = .next t := by
  refine ⟨⟨by decide +kernel, by decide +kernel, by decide +kernel, by decide +kernel, by decide +kernel,
    by decide +kernel, by decide +kernel, fun k => by cases k <;> decide, ?_, ?_⟩, busyNext_steps⟩
  · unfold jobsCanonical; decide
  · unfold jobsCanonical; decide

theorem busy_entriesOf (t : Nat) : entriesOf busyNext t = 0 := by
  have h : ∀ i, busyNext.station i = none := fun _ => rfl
  simp [entriesOf, h]

/-- `busy` with station Y learned on D5, whose next command is a completion. -/
def learnedNext : State :=
  { stationState (some (entryY .learned (.downlink 5))) 1 with pending := [.transmissionCompletion 5] }

theorem learnedNext_station (i : Nat) : learnedNext.station i
    = if i = 4 * stationBucket 7 0x020000000011#48 then some (entryY .learned (.downlink 5)) else none := by
  simp only [State.station, learnedNext, stationState, tableGet]

theorem learnedNext_keysSound : KeysSound learnedNext := by
  refine ⟨fun i e h => ?_, fun i j e e' h h' _ _ => ?_⟩
  · rw [learnedNext_station] at h
    split at h
    · next hi =>
      have he : entryY .learned (.downlink 5) = e := Option.some.inj h
      rw [hi, ← he]
      exact ⟨by decide +kernel, by decide +kernel, by decide, by decide, fun _ => ⟨5, rfl⟩⟩
    · cases h
  · rw [learnedNext_station] at h h'
    split at h <;> split at h' <;> simp_all

theorem witness_EveryStepKeepsTheStationCounts :
    (StationsSound busyNext ∧ ∃ t, step busyNext = .next t)
    ∧ KeysSound learnedNext ∧ ∃ t, step learnedNext = .next t := by
  refine ⟨?_, learnedNext_keysSound, _, rfl⟩
  refine ⟨⟨fun t => ?_, ⟨fun t ht => ?_, fun t ht => ?_, fun q hq => ?_, fun q t i hq => ?_, fun t _ => ?_⟩,
    witness_EveryStepKeepsTenantAndProfileRecords.1.1⟩, busyNext_steps⟩
  · rw [busy_entriesOf, busyNext_tenant]
    split <;> decide
  · exact absurd ht (by simp [State.purgeOutstanding, busyNext, busy, State.reset, State.carried, noJobs, setHas])
  · exact absurd ht (by simp [busyNext, busy, State.reset, noJobs, setHas])
  · cases hq
  · cases hq
  · exact busy_entriesOf t

end Sys2Proof.Tests
end

