-- ==== Sys2Proof/Proofs/TenantRead.lean ====
section
/-! TENANT_READ and the packing of the tenant report (R12, R190, R191). The layers, in order: the end of a
request in execution, the words of a reply, the words of a report, and the obligation over them. -/

namespace Sys2Proof.Proofs.TenantRead

open Sys2Proof Sys2Proof.Machine Sys2Proof.Safety

/-! ### The effect event of the request in execution (R179) -/

theorem effectEvent_of_running {s : State} {k : Nat} {m : Message} {keep : Bool}
    (effect : Message → State → Answer) (h : Running s k m keep) :
    effectEvent (ofKind k) effect s
      = .next (answered m keep (effect m s).status (effect m s).body (effect m s).state) := by
  obtain ⟨hexec, hkind⟩ := h
  exact effectEvent_of_mine effect hexec (by simp [ofKind, hkind])

theorem needTenant_of_vacant {m : Message} {s : State} (effect : Nat → Tenant → Answer)
    (ht : num m 1 < 1024) (hv : (s.tenant (num m 1)).state = .vacant) :
    needTenant m true s effect = refuseWith .noTenant s := by
  simp [needTenant, Nat.not_le.mpr ht, hv]

theorem needTenant_of_not_vacant {m : Message} {s : State} (effect : Nat → Tenant → Answer)
    (ht : num m 1 < 1024) (hv : (s.tenant (num m 1)).state ≠ .vacant) :
    needTenant m true s effect = effect (num m 1) (s.tenant (num m 1)) := by
  simp [needTenant, Nat.not_le.mpr ht, hv]

/-! ### The words of a reply (R179, R190) -/

theorem word_append_zeros (l : List Word) (n i : Nat) :
    word (l ++ List.replicate n 0#32) i = word l i := by
  unfold word
  rcases Nat.lt_or_ge i l.length with h | h
  · exact List.getD_append _ _ _ _ h
  · rw [List.getD_append_right _ _ _ _ h, List.getD_eq_default _ _ h, List.getD_eq_getElem?_getD]
    exact List.getElem?_getD_replicate_default_eq _ _ _

theorem word_padded (ws : List Word) {i : Nat} (h : i < 32) : word (padded ws) i = word ws i := by
  calc word (padded ws) i
    _ = word (ws ++ zeroMessage) i := by
      simp [word, padded, List.getD_eq_getElem?_getD, List.getElem?_take_of_lt h]
    _ = word ws i := word_append_zeros ws 32 i

/-- Behind the envelope a reply holds its body, word for word. -/
theorem word_replyTo_succ (m : Message) (st : Status) (body : List Word) {i : Nat} (h : i < 31) :
    word (replyTo m st body) (i + 1) = word body i :=
  word_padded _ (by omega)

theorem num_replyTo_succ (m : Message) (st : Status) (body : List Word) {i : Nat} (h : i < 31) :
    num (replyTo m st body) (i + 1) = num body i :=
  congrArg BitVec.toNat (word_replyTo_succ m st body h)

theorem out_toNat (n : Nat) : (out n).toNat = n % 4294967296 := BitVec.toNat_ofNat n 32

theorem out_toNat_of_lt {n : Nat} (h : n < 4294967296) : (out n).toNat = n :=
  (out_toNat n).trans (Nat.mod_eq_of_lt h)

/-- The two words of a field hold it in full below 2^64. -/
theorem out_toNat_add_high {n : Nat} (h : n < 18446744073709551616) :
    (out n).toNat + 4294967296 * (out (n / 4294967296)).toNat = n := by
  rw [out_toNat, out_toNat]; omega

/-! ### The words of a tenant report (R191) -/

theorem tenantState_number_le_five (x : TenantState) : x.number ≤ 5 := by
  cases x <;> decide

/-- Body word 0: the two states, the profile and the saturation flag. -/
theorem num_tenantReport_states {r : Tenant} (after : TenantState) (hp : r.profile ≤ 15) :
    num (tenantReport r after) 0
      = r.state.number + 16 * after.number + 256 * r.profile + 4096 * r.saturated.toNat := by
  have hs := tenantState_number_le_five r.state
  have ha := tenantState_number_le_five after
  have hf := r.saturated.toNat_le
  exact out_toNat_of_lt (by omega)

theorem num_tenantReport_noPath {r : Tenant} (after : TenantState) (h : r.defaultPath = none) :
    num (tenantReport r after) 2 = 0 := by
  show (outOption (r.defaultPath.map Fin.val)).toNat = 0
  rw [h]; rfl

theorem num_tenantReport_path {r : Tenant} (after : TenantState) {n : Fin 64}
    (h : r.defaultPath = some n) : num (tenantReport r after) 2 = 2147483648 + n := by
  show (outOption (r.defaultPath.map Fin.val)).toNat = _
  rw [h]
  exact out_toNat_of_lt (by omega)

theorem num_tenantReport_stations {r : Tenant} (after : TenantState) (hl : r.stationLimit ≤ 16384)
    (hc : r.stationCount ≤ r.stationLimit) :
    num (tenantReport r after) 3 = r.stationLimit + 65536 * r.stationCount :=
  out_toNat_of_lt (by omega)

theorem num2_tenantReport_allowance {r : Tenant} (after : TenantState) (h : tenantInRange r) :
    num2 (tenantReport r after) 4 = r.allowance := by
  obtain ⟨ha, -, -, -⟩ := h
  exact out_toNat_add_high (by omega)

theorem num2_tenantReport_overage {r : Tenant} (after : TenantState) (h : tenantInRange r) :
    num2 (tenantReport r after) 6 = r.overage := by
  obtain ⟨-, ho, -, -⟩ := h
  exact out_toNat_add_high (by omega)

theorem num2_tenantReport_ceiling {r : Tenant} (after : TenantState) (h : tenantInRange r) :
    num2 (tenantReport r after) 8 = r.ceiling := by
  obtain ⟨-, -, hc, -⟩ := h
  exact out_toNat_add_high (by omega)

theorem num_tenantReport_inBuffer {r : Tenant} (after : TenantState) (h : r.inBuffer ≤ 98304) :
    num (tenantReport r after) 10 = r.inBuffer :=
  out_toNat_of_lt (by omega)

/-- From body word 11 on, the five words of each class's meters, in class order. -/
theorem num_tenantReport_meters (r : Tenant) (after : TenantState) (c : Cls) {j : Nat} (h : j < 5) :
    num (tenantReport r after) (11 + 5 * c.number + j) = num (meterWords (r.meters.get c)) j := by
  interval_cases j <;> cases c <;> rfl

/-- The fields of a class's meters are read back from its five words: word 1 holds the high halves of the
bytes and of the accrued charge, word 4 the high byte of the frames and the residue. -/
theorem meterWords_unpack {m : Meters} (h : metersInRange m) :
    num (meterWords m) 0 + 4294967296 * (num (meterWords m) 1 % 65536) = m.bytes
    ∧ num (meterWords m) 2 + 4294967296 * (num (meterWords m) 1 / 65536) = m.accrued
    ∧ num (meterWords m) 3 + 4294967296 * (num (meterWords m) 4 % 256) = m.frames
    ∧ num (meterWords m) 4 / 256 = m.residue := by
  obtain ⟨hbytes, hframes, haccrued, hresidue⟩ := h
  have h0 : num (meterWords m) 0 = m.bytes % 4294967296 := out_toNat _
  have h1 : num (meterWords m) 1
      = m.bytes / 4294967296 % 65536 + 65536 * (m.accrued / 4294967296 % 65536) :=
    out_toNat_of_lt (by omega)
  have h2 : num (meterWords m) 2 = m.accrued % 4294967296 := out_toNat _
  have h3 : num (meterWords m) 3 = m.frames % 4294967296 := out_toNat _
  have h4 : num (meterWords m) 4 = m.frames / 4294967296 % 256 + 256 * m.residue :=
    out_toNat_of_lt (by omega)
  omega

/-- Word `12 + 5 c + j` of a reply that carries a report is word `j` of the meters of class `c`. -/
theorem num_replyTo_tenantReport_meters (m : Message) (st : Status) (r : Tenant) (after : TenantState)
    (c : Cls) {j : Nat} (h : j < 5) :
    num (replyTo m st (tenantReport r after)) (12 + 5 * c.number + j)
      = num (meterWords (r.meters.get c)) j := by
  have hc : c.number ≤ 3 := by cases c <;> decide
  have hi : 12 + 5 * c.number + j = 11 + 5 * c.number + j + 1 := by omega
  rw [hi, num_replyTo_succ m st _ (by omega), num_tenantReport_meters r after c h]

/-! ### TENANT_READ (R12) -/

theorem exec_tenantRead {s : State} {m : Message} {keep : Bool} (h : Running s 5 m keep) :
    exec .tenantRead s = .next (answered m keep (tenantReadEffect m s).status
      (tenantReadEffect m s).body (tenantReadEffect m s).state) :=
  effectEvent_of_running tenantReadEffect h

theorem exec_tenantRead_of_vacant {s : State} {m : Message} {keep : Bool} (h : Running s 5 m keep)
    (ht : num m 1 < 1024) (hv : (s.tenant (num m 1)).state = .vacant) :
    exec .tenantRead s = .next (answered m keep .noTenant [] s) := by
  rw [exec_tenantRead h, tenantReadEffect, needTenant_of_vacant _ ht hv]; rfl

theorem exec_tenantRead_of_not_vacant {s : State} {m : Message} {keep : Bool}
    (h : Running s 5 m keep) (ht : num m 1 < 1024) (hv : (s.tenant (num m 1)).state ≠ .vacant) :
    exec .tenantRead s = .next (answered m keep .done
      (tenantReport (s.tenant (num m 1)) (s.tenant (num m 1)).state) s) := by
  rw [exec_tenantRead h, tenantReadEffect, needTenant_of_not_vacant _ ht hv]

/-- Settles O15: the two outcomes of the read, the report's words field by field, and R2's numbering. -/
theorem tenantReadChangesNothing : Obligations.TenantReadChangesNothing := by
  unfold Obligations.TenantReadChangesNothing
  refine ⟨fun s m keep hrun ht =>
    ⟨exec_tenantRead_of_vacant hrun ht, exec_tenantRead_of_not_vacant hrun ht⟩, ?_, rfl⟩
  rintro m _ st r after hr hprofile hlimit hcount hbuffer rfl
  have hnum {i : Nat} (h : i < 31) := num_replyTo_succ m st (tenantReport r after) h
  have hnum2 {i : Nat} (h : i < 30) : num2 (replyTo m st (tenantReport r after)) (i + 1)
      = num2 (tenantReport r after) i := by
    rw [num2, num2, hnum (by omega), hnum (by omega)]
  refine ⟨(hnum (by decide)).trans (num_tenantReport_states after hprofile),
    word_replyTo_succ m st (tenantReport r after) (i := 1) (by decide),
    fun hpath => (hnum (by decide)).trans (num_tenantReport_noPath after hpath),
    fun n hpath => (hnum (by decide)).trans (num_tenantReport_path after hpath),
    (hnum (by decide)).trans (num_tenantReport_stations after hlimit hcount),
    (hnum2 (by decide)).trans (num2_tenantReport_allowance after hr),
    (hnum2 (by decide)).trans (num2_tenantReport_overage after hr),
    (hnum2 (by decide)).trans (num2_tenantReport_ceiling after hr),
    (hnum (by decide)).trans (num_tenantReport_inBuffer after hbuffer), ?_⟩
  rintro c _ rfl
  obtain ⟨-, -, -, hmeters⟩ := hr
  have hword {j : Nat} (h : j < 5) := num_replyTo_tenantReport_meters m st r after c h
  have hfirst : num _ (12 + 5 * c.number) = _ := hword (j := 0) (by decide)
  rw [hfirst, hword (by decide), hword (by decide), hword (by decide), hword (by decide)]
  exact meterWords_unpack (hmeters c)

end Sys2Proof.Proofs.TenantRead
end

/-! CLOCK_SET and CLOCK_READ (R40, R41): what each effect answers in each of its cases, the event of the
request in execution, and the obligation over both. -/

namespace Sys2Proof.Proofs.ClockRequests

open Sys2Proof Sys2Proof.Machine Sys2Proof.Safety Sys2Proof.Proofs.TenantRead

/-! ### CLOCK_SET (R40) -/

theorem clockSetEffect_of_ge {m : Message} (s : State) (h : 1440 ≤ num m 1) :
    clockSetEffect m s = refuseWith .malformed s := if_pos h

/-- The next advance is a whole minute from now, whether or not the clock was valid. -/
theorem clockSetEffect_of_lt {m : Message} (s : State) (h : num m 1 < 1440) :
    clockSetEffect m s =
      { status := .done
        body := [out (num m 1)]
        state := { s with clock := { valid := true, minute := num m 1,
                                     nextAdvance := some (60000000 + s.timebase) } } } :=
  if_neg (Nat.not_le.mpr h)

theorem exec_clockSet {s : State} {m : Message} {keep : Bool} (h : Running s 11 m keep) :
    exec .clockSet s = .next (answered m keep (clockSetEffect m s).status
      (clockSetEffect m s).body (clockSetEffect m s).state) :=
  effectEvent_of_running clockSetEffect h

theorem exec_clockSet_of_ge {s : State} {m : Message} {keep : Bool} (h : Running s 11 m keep)
    (hminute : 1440 ≤ num m 1) :
    exec .clockSet s = .next (answered m keep .malformed [] s) := by
  rw [exec_clockSet h, clockSetEffect_of_ge s hminute, refuseWith]

theorem exec_clockSet_of_lt {s : State} {m : Message} {keep : Bool} (h : Running s 11 m keep)
    (hminute : num m 1 < 1440) :
    exec .clockSet s = .next (answered m keep .done [out (num m 1)]
      { s with clock := { valid := true, minute := num m 1,
                          nextAdvance := some (60000000 + s.timebase) } }) := by
  rw [exec_clockSet h, clockSetEffect_of_lt s hminute]

/-! ### CLOCK_READ (R41) -/

theorem clockReadEffect_of_invalid (m : Message) {s : State} (h : s.clock.valid = false) :
    clockReadEffect m s =
      { status := .done
        body := [0#32, 0#32, 0#32, 0#32, out s.timebase, out (s.timebase / 4294967296)]
        state := s } := by
  rw [clockReadEffect, h]; rfl

theorem clockReadEffect_of_valid (m : Message) {s : State} {x : Nat} (h : s.clock.valid = true)
    (hx : s.clock.nextAdvance = some x) :
    clockReadEffect m s =
      { status := .done
        body := [1#32, out s.clock.minute, out (s.clock.minute / 60), out (x - s.timebase),
                 out s.timebase, out (s.timebase / 4294967296)]
        state := s } := by
  rw [clockReadEffect, h, hx]; rfl

theorem exec_clockRead {s : State} {m : Message} {keep : Bool} (h : Running s 12 m keep) :
    exec .clockRead s = .next (answered m keep (clockReadEffect m s).status
      (clockReadEffect m s).body (clockReadEffect m s).state) :=
  effectEvent_of_running clockReadEffect h

theorem exec_clockRead_of_invalid {s : State} {m : Message} {keep : Bool} (h : Running s 12 m keep)
    (hvalid : s.clock.valid = false) :
    exec .clockRead s = .next (answered m keep .done
      [0#32, 0#32, 0#32, 0#32, out s.timebase, out (s.timebase / 4294967296)] s) := by
  rw [exec_clockRead h, clockReadEffect_of_invalid m hvalid]

theorem exec_clockRead_of_valid {s : State} {m : Message} {keep : Bool} {x : Nat}
    (h : Running s 12 m keep) (hvalid : s.clock.valid = true)
    (hx : s.clock.nextAdvance = some x) :
    exec .clockRead s = .next (answered m keep .done
      [1#32, out s.clock.minute, out (s.clock.minute / 60), out (x - s.timebase), out s.timebase,
        out (s.timebase / 4294967296)] s) := by
  rw [exec_clockRead h, clockReadEffect_of_valid m hvalid hx]

/-- Settles O22: CLOCK_SET by the range of the minute, CLOCK_READ by the valid flag. -/
theorem clockRequestsLoadAndRead : Obligations.ClockRequestsLoadAndRead := by
  unfold Obligations.ClockRequestsLoadAndRead
  exact ⟨fun _ _ _ hrun => ⟨exec_clockSet_of_ge hrun, exec_clockSet_of_lt hrun⟩,
    fun _ _ _ hrun => ⟨exec_clockRead_of_invalid hrun, fun _ => exec_clockRead_of_valid hrun⟩⟩

end Sys2Proof.Proofs.ClockRequests

/-! The class decision of Intake (R47): one equation per row of its table, and what the ranges of the
stored maps (R21) give for the class that a frame leaves with. -/

namespace Sys2Proof.Proofs.ClassDecision

open Sys2Proof Sys2Proof.Machine Sys2Proof.Safety

/-! ### The rows of the table -/

theorem classDecision_of_active {s : State} {t : Nat} (c : Cls) (h : (s.tenant t).state = .active) :
    s.classDecision t c = (c, false) := by
  rw [State.classDecision, h]

theorem classDecision_of_overage {s : State} {t : Nat} (c : Cls)
    (h : (s.tenant t).state = .overage) :
    s.classDecision t c = ((s.profile (s.tenant t).profile).demotion.get c, false) := by
  rw [State.classDecision, h]

theorem classDecision_of_throttled {s : State} {t : Nat} (c : Cls)
    (h : (s.tenant t).state = .throttled) :
    s.classDecision t c = (if c = .c3 then .c3 else .c0, true) := by
  rw [State.classDecision, h]

/-! ### No frame is raised, and C3 stays C3 -/

/-- R47's consequence for one class decision: `d` is what a frame that asked for `c` leaves with. -/
def KeepsOrDemotes (c d : Cls) : Prop :=
  d.number ≤ c.number ∧ (c = .c3 → d = .c3)

theorem keepsOrDemotes_self (c : Cls) : KeepsOrDemotes c c :=
  ⟨Nat.le_refl _, id⟩

/-- R21: a stored map never raises a class, and its C3 field is C3. -/
theorem keepsOrDemotes_demotion {r : Profile} (h : profileInRange r) (c : Cls) :
    KeepsOrDemotes c (r.demotion.get c) := by
  obtain ⟨-, -, -, hle, hc3⟩ := h
  refine ⟨hle c, ?_⟩
  rintro rfl
  exact hc3

theorem keepsOrDemotes_throttled (c : Cls) :
    KeepsOrDemotes c (if c = .c3 then .c3 else .c0) := by
  by_cases h : c = .c3
  · rw [if_pos h, ← h]
    exact keepsOrDemotes_self c
  · rw [if_neg h]
    exact ⟨Nat.zero_le _, fun hc3 => absurd hc3 h⟩

theorem classDecision_keepsOrDemotes {s : State} {t : Nat} (c : Cls) (hs : ProfilesInRange s)
    (h : (s.tenant t).state ∈ [.active, .overage, .throttled]) :
    KeepsOrDemotes c (s.classDecision t c).1 := by
  simp only [List.mem_cons, List.not_mem_nil, or_false] at h
  obtain hactive | hoverage | hthrottled := h
  · rw [classDecision_of_active c hactive]
    exact keepsOrDemotes_self c
  · rw [classDecision_of_overage c hoverage]
    exact keepsOrDemotes_demotion (hs _) c
  · rw [classDecision_of_throttled c hthrottled]
    exact keepsOrDemotes_throttled c

/-- Settles O24: the rows of R47's table, and its consequence from the ranges of the stored maps. -/
theorem theClassFollowsTheTenantState : Obligations.TheClassFollowsTheTenantState := by
  unfold Obligations.TheClassFollowsTheTenantState
  intro s t c
  refine ⟨classDecision_of_active c, classDecision_of_overage c, fun h hc => ?_, fun h hc => ?_,
    classDecision_keepsOrDemotes c⟩
  · rw [classDecision_of_throttled c h, if_pos hc]
  · rw [classDecision_of_throttled c h, if_neg hc]

end Sys2Proof.Proofs.ClassDecision

/-! What a command is made of. `Writes` lists the writes to one record or one register that every command
composes, so that what each write keeps (the commands that wait, the request engine, the canonical form, the
interrupt count) is kept by every command. Then the shape of every outcome (`Outcome`), said once for all rows. -/

namespace Sys2Proof.Proofs.Outcomes

open Sys2Proof Sys2Proof.Machine Sys2Proof.Safety

/-! ### The writes -/

/-- `t` is `s` after writes to single records and registers. Where a write of a whole table or list could leave
the canonical form, it carries the fact that it does not. -/
inductive Writes (s : State) : State → Prop
  | refl : Writes s s
  | tenant {u : State} (n : Nat) (r : Tenant) (h : Writes s u) : Writes s (u.setTenant n r)
  | profile {u : State} (n : Nat) (r : Profile) (h : Writes s u) : Writes s (u.setProfile n r)
  | station {u : State} (i : Nat) (e : Option Entry) (h : Writes s u) : Writes s (u.setStation i e)
  | pathSets {u : State} (sets : Table PathSet)
      (hwf : tableWf emptyPathSet u.pathSets = true → tableWf emptyPathSet sets = true)
      (h : Writes s u) : Writes s { u with pathSets := sets }
  | pin {u : State} (i : Nat) (r : Pin) (h : Writes s u) : Writes s (u.setPin i r)
  | port {u : State} (p : Nat) (r : Port) (h : Writes s u) : Writes s (u.setPort p r)
  | notice {u : State} (k : NoticeKind) (x : Nat) (h : Writes s u) : Writes s (pend k x u)
  | sweep {u : State} (j : Jobs) (q : Option Pass)
      (hwf : jobsCanonical u.jobs → jobsCanonical u.carried →
        jobsCanonical j ∧ jobsCanonical { u with pass := q }.carried)
      (h : Writes s u) : Writes s { u with jobs := j, pass := q }
  | clock {u : State} (c : Clock) (next : Nat) (h : Writes s u) :
      Writes s { u with clock := c, nextAging := next }
  | settings {u : State} (interval expiry : Nat) (pol : PerKind (PerClass Policy))
      (pau : PerKind PauseSettings) (lnk : LinkSettings) (h : Writes s u) :
      Writes s { u with
        agingInterval := interval, pinExpiry := expiry, policies := pol, pauseSettings := pau
        linkSettings := lnk }
  | counts {u : State} (free drawn : Nat) (flying : List (List Copy)) (h : Writes s u) :
      Writes s { u with freeCount := free, draws := drawn, inFlight := flying }

theorem Writes.trans {s u v : State} (h : Writes s u) (h' : Writes u v) : Writes s v := by
  induction h' with
  | refl => exact h
  | tenant n r _ ih => exact ih.tenant n r
  | profile n r _ ih => exact ih.profile n r
  | station i e _ ih => exact ih.station i e
  | pathSets sets hwf _ ih => exact ih.pathSets sets hwf
  | pin i r _ ih => exact ih.pin i r
  | port p r _ ih => exact ih.port p r
  | notice k x _ ih => exact ih.notice k x
  | sweep j q hwf _ ih => exact ih.sweep j q hwf
  | clock c next _ ih => exact ih.clock c next
  | settings a b c d e _ ih => exact ih.settings a b c d e
  | counts a b c _ ih => exact ih.counts a b c

/-! ### What every write keeps -/

/-- The fields of the host side that no write touches. -/
def SameHost (s t : State) : Prop :=
  t.pending = s.pending ∧ t.timebase = s.timebase ∧ t.masks = s.masks ∧ t.postingArea = s.postingArea
    ∧ t.requests = s.requests ∧ t.execution = s.execution ∧ t.replies = s.replies ∧ t.overrun = s.overrun

theorem Writes.sameHost {s t : State} (h : Writes s t) : SameHost s t := by
  induction h with
  | refl => exact ⟨rfl, rfl, rfl, rfl, rfl, rfl, rfl, rfl⟩
  | notice k x _ ih => simpa [SameHost] using ih
  | _ => assumption

/-- From `s` to `t` the interrupt condition did not fall, and one message was sent when it turned (R187). -/
def Rises (s t : State) : Prop :=
  (s.interruptCondition = true → t.interruptCondition = true)
    ∧ t.interruptsSent = s.interruptsSent + (!s.interruptCondition && t.interruptCondition).toNat

theorem Rises.refl (s : State) : Rises s s := ⟨id, by cases s.interruptCondition <;> rfl⟩

theorem Rises.trans {s u v : State} (h : Rises s u) (h' : Rises u v) : Rises s v := by
  obtain ⟨hs, hsu⟩ := h
  obtain ⟨hu, huv⟩ := h'
  refine ⟨hu ∘ hs, ?_⟩
  rw [huv, hsu]
  cases hcs : s.interruptCondition <;> cases hcu : u.interruptCondition <;>
    cases hcv : v.interruptCondition <;> simp_all

theorem setInsert_ne_nil (l : NatSet) (x : Nat) : setInsert l x ≠ [] :=
  List.ne_nil_of_mem ((mem_setInsert l x x).mpr (.inl rfl))

/-- A pend only adds to the sets, so a condition that holds goes on to hold. -/
theorem interruptCondition_pend {s : State} (k : NoticeKind) (x : Nat) (h : s.interruptCondition = true) :
    (pend k x s).interruptCondition = true := by
  obtain ⟨j, hj, hcond⟩ := List.any_eq_true.mp h
  refine List.any_eq_true.mpr ⟨j, hj, ?_⟩
  simp only [State.masked, pend_masks, pend_noticeSet, Bool.and_eq_true, Bool.not_eq_true',
    List.isEmpty_eq_false_iff] at hcond ⊢
  refine ⟨hcond.1, ?_⟩
  split
  · exact setInsert_ne_nil _ _
  · exact hcond.2

theorem rises_pend (k : NoticeKind) (x : Nat) (s : State) : Rises s (pend k x s) := by
  refine ⟨interruptCondition_pend k x, ?_⟩
  have hcond : (pend k x s).interruptCondition
      = (s.setNotices k (setInsert (s.noticeSet k) x)).interruptCondition := by rw [pend_eq]; rfl
  rw [hcond, pend_eq]

theorem Writes.rises {s t : State} (h : Writes s t) : Rises s t := by
  induction h with
  | refl => exact .refl s
  | notice k x _ ih => exact ih.trans (rises_pend k x _)
  | _ => assumption

theorem Writes.canonical {s t : State} (h : Writes s t) (hs : Canonical s) : Canonical t := by
  induction h with
  | refl => exact hs
  | tenant n r _ ih => exact ⟨tableSet_wf _ _ _ _ ih.1, ih.2⟩
  | profile n r _ ih =>
    obtain ⟨ht, hp, hrest⟩ := ih
    exact ⟨ht, tableSet_wf _ _ _ _ hp, hrest⟩
  | station i e _ ih =>
    obtain ⟨ht, hp, hs, hrest⟩ := ih
    exact ⟨ht, hp, tableSet_wf _ _ _ _ hs, hrest⟩
  | pathSets sets hwf _ ih =>
    obtain ⟨ht, hp, hs, hset, hrest⟩ := ih
    exact ⟨ht, hp, hs, hwf hset, hrest⟩
  | pin i r _ ih =>
    obtain ⟨ht, hp, hs, hset, hpin, hrest⟩ := ih
    exact ⟨ht, hp, hs, hset, tableSet_wf _ _ _ _ hpin, hrest⟩
  | port p r _ ih =>
    obtain ⟨ht, hp, hs, hset, hpin, hport, hrest⟩ := ih
    exact ⟨ht, hp, hs, hset, hpin, tableSet_wf _ _ _ _ hport, hrest⟩
  | @notice u k x _ ih =>
    obtain ⟨ht, hp, hs, hset, hpin, hport, hn, hk, hj, hc⟩ := ih
    refine ⟨?_, ?_, ?_, ?_, ?_, ?_, ?_, fun j => ?_, ?_, ?_⟩
    case refine_8 =>
      rw [pend_noticeSet]
      split
      · exact setInsert_wf _ _ (hk k)
      · exact hk j
    all_goals rw [pend_eq]
    case refine_7 => exact tableSet_wf _ _ _ _ hn
    all_goals assumption
  | sweep j q hwf _ ih =>
    obtain ⟨ht, hp, hs, hset, hpin, hport, hn, hk, hj, hc⟩ := ih
    exact ⟨ht, hp, hs, hset, hpin, hport, hn, hk, hwf hj hc⟩
  | clock => assumption
  | settings => assumption
  | counts => assumption

/-! ### The shared operations are writes -/

section Ops
variable (s : State)

theorem writes_drawn (used : Bool) : Writes s (s.drawn used) := by
  unfold State.drawn
  split
  · exact Writes.refl.counts _ _ _
  · exact .refl

theorem writes_jobs (j : Jobs) (h : jobsCanonical s.jobs → jobsCanonical j) :
    Writes s { s with jobs := j } :=
  Writes.refl.sweep j s.pass fun hj hc => ⟨h hj, hc⟩

theorem writes_postAging : Writes s (postAging s) := writes_jobs s _ id

theorem writes_postFlush (p : Nat) : Writes s (postFlush p s) :=
  writes_jobs s _ fun ⟨hp, ht, hs⟩ => ⟨setInsert_wf _ _ hp, ht, hs⟩

theorem writes_postPurge (t : Nat) : Writes s (postPurge t s) :=
  writes_jobs s _ fun ⟨hp, ht, hs⟩ => ⟨hp, setInsert_wf _ _ ht, hs⟩

theorem writes_postRebalance (n : Nat) : Writes s (postRebalance n s) :=
  writes_jobs s _ fun ⟨hp, ht, hs⟩ => ⟨hp, ht, setInsert_wf _ _ hs⟩

theorem writes_pendAll (k : NoticeKind) (l : NatSet) : Writes s (pendAll k l s) := by
  induction l generalizing s with
  | nil => exact .refl
  | cons x rest ih => exact (Writes.refl.notice k x).trans (ih _)

theorem writes_becomeVacantIfDone (t : Nat) : Writes s (becomeVacantIfDone t s) := by
  rcases becomeVacantIfDone_cases t s with ⟨-, -, -, h⟩ | ⟨-, h⟩ <;> rw [h]
  · exact (Writes.refl.tenant _ _).notice _ _
  · exact .refl

theorem writes_lowerInBuffer (t : Nat) : Writes s (lowerInBuffer t s) :=
  (Writes.refl.tenant _ _).trans (writes_becomeVacantIfDone _ t)

theorem writes_lowerLossless (f : QFrame) : Writes s (lowerLossless f s) := by
  unfold lowerLossless
  split
  · exact Writes.refl.port _ _
  · exact .refl

theorem writes_returnCells (f : QFrame) : Writes s (returnCells f s) := Writes.refl.counts _ _ _

theorem writes_releaseFrame (f : QFrame) : Writes s (releaseFrame f s) :=
  ((writes_returnCells s f).trans (writes_lowerInBuffer _ _)).trans (writes_lowerLossless _ f)

theorem writes_releaseFrames (l : List QFrame) :
    Writes s (l.foldl (fun s f => releaseFrame f s) s) := by
  induction l generalizing s with
  | nil => exact .refl
  | cons f rest ih => exact (writes_releaseFrame s f).trans (ih _)

theorem writes_abortTransmission (p : Nat) : Writes s (abortTransmission p s) := by
  unfold abortTransmission
  dsimp only
  split
  · exact .refl
  · exact Writes.refl.port _ _
  · split
    · exact Writes.refl.port _ _
    · exact (Writes.refl.port _ _).trans (writes_releaseFrame _ _)

theorem writes_flushQueue (p : Nat) (c : Cls) : Writes s (flushQueue p c s) :=
  (Writes.refl.port _ _).trans (writes_releaseFrames _ _)

theorem writes_leaveUp (p : Nat) (l : LinkState) : Writes s (leaveUp p l s) :=
  (Writes.refl.port _ _).trans (writes_abortTransmission _ p)

theorem writes_downEffects (p : Nat) : Writes s (downEffects p s) := by
  have hflushed : Writes s (flushQueue p .c3 (flushQueue p .c2 (flushQueue p .c1 (flushQueue p .c0 s)))) :=
    (((writes_flushQueue s p .c0).trans (writes_flushQueue _ p .c1)).trans
      (writes_flushQueue _ p .c2)).trans (writes_flushQueue _ p .c3)
  unfold downEffects
  split
  · exact ((hflushed.port _ _).notice _ _).trans (writes_postFlush _ p)
  · exact (hflushed.port _ _).notice _ _

theorem writes_enterDown (p : Nat) : Writes s (enterDown p s) :=
  (Writes.refl.port _ _).trans (writes_downEffects _ p)

theorem writes_dropNext (k : Nat) : Writes s (s.dropNext k) := Writes.refl.counts _ _ _

theorem writes_handOver (k : Nat) (u : Fin 8) : Writes s (s.handOver k u) := Writes.refl.counts _ _ _

theorem writes_pendIf (b : Bool) (k : NoticeKind) (t : Nat) : Writes s (pendIf b k t s) := by
  unfold pendIf
  split
  · exact Writes.refl.notice _ _
  · exact .refl

theorem writes_chargeCheck (f : QFrame) : Writes s (chargeCheck f s) := by
  unfold chargeCheck
  split
  · exact (((Writes.refl.tenant _ _).trans (writes_pendIf _ _ _ _)).trans (writes_pendIf _ _ _ _)).trans
      (writes_pendIf _ _ _ _)
  · exact .refl

end Ops

/-! ### The events of the blocks are writes -/

section Events
variable (s : State)

theorem writes_learn (t : Nat) (a : Addr) (q : Fin 32) : Writes s (learn t a q s) := by
  unfold learn learnNew
  repeat' split
  all_goals first
    | exact .refl
    | exact Writes.refl.station _ _
    | exact (Writes.refl.station _ _).tenant _ _

theorem writes_intake (p : Fin 40) (bytes : List Byte) : Writes s (intake p bytes s) := by
  have hlearned : Writes s (learnSource p (readFrame bytes) s) := by
    unfold learnSource
    split
    · split
      · exact .refl
      · exact writes_learn s _ _ _
    · exact .refl
  unfold intake State.handOn
  dsimp only
  split
  · exact hlearned
  · exact hlearned.counts _ _ _

theorem tableWf_freshWalk (ok : Member → Bool) (h visits : Nat) (n : Fin 64) (sets : Table PathSet)
    (picks : Table (Option Nat)) (hwf : tableWf emptyPathSet sets = true) :
    tableWf emptyPathSet (freshWalk ok h visits n sets picks).sets = true := by
  induction visits generalizing n sets picks with
  | zero => exact hwf
  | succ visits ih =>
    unfold freshWalk
    dsimp only
    split
    · split
      · exact hwf
      · exact ih _ _ _ hwf
    · split
      · exact tableSet_wf _ _ _ _ hwf
      · exact ih _ _ _ (tableSet_wf _ _ _ _ hwf)

/-- The sets as a fresh resolution leaves them. -/
theorem writes_walkedSets (c : Copy) (n : Fin 64) :
    Writes s { s with pathSets := (s.freshResolution c n).sets } :=
  Writes.refl.pathSets _ (tableWf_freshWalk _ _ _ _ _ _)

theorem writes_afterWalk (k : Nat) (n : Fin 64) (w : Walk) : Writes s (afterWalk k n w s) := by
  unfold afterWalk
  split
  · exact writes_handOver s k _
  · exact writes_dropNext s k
  · exact (writes_dropNext s k).notice _ _

theorem writes_resolveNew (k : Nat) (c : Copy) (n : Fin 64) : Writes s (resolveNew k c n s) := by
  unfold resolveNew
  refine .trans ?_ (writes_afterWalk _ k n _)
  split
  · exact (writes_walkedSets s c n).pin _ _
  · exact writes_walkedSets s c n
  · exact writes_walkedSets s c n

theorem writes_resolveFault (k : Nat) (c : Copy) (n : Fin 64) (r : Pin) :
    Writes s (resolveFault k c n r s) := by
  unfold resolveFault
  refine .trans ?_ (writes_afterWalk _ k n _)
  split <;> exact (writes_walkedSets s c n).pin _ _

theorem writes_resolveMatched (k : Nat) (c : Copy) (n : Fin 64) (r : Pin) :
    Writes s (resolveMatched k c n r s) := by
  have hmove (r' : Pin) (v : Fin 8) : Writes s ((s.setPin c.pinSlot r').handOver k v) :=
    (Writes.refl.pin _ _).trans (writes_handOver _ k v)
  unfold resolveMatched
  split
  · exact writes_resolveFault s k c n r
  · split
    · exact writes_resolveFault s k c n r
    · split
      · exact hmove _ _
      · split <;> exact hmove _ _

theorem writes_resolveCopy (k : Nat) (c : Copy) (n : Fin 64) : Writes s (resolveCopy k c n s) := by
  unfold resolveCopy
  dsimp only
  split
  · exact writes_resolveMatched s k c n _
  · split
    · exact writes_resolveNew s k c n
    · exact (writes_walkedSets s c n).trans (writes_afterWalk _ k n _)

theorem writes_admitCopy (c : Copy) (p : Nat) : Writes s (admitCopy c p s) := by
  have hroom : Writes s (takeRoom c (enqueue c p s)) :=
    ((Writes.refl.port _ _).counts _ _ _).tenant _ _
  unfold admitCopy raiseLossless
  split
  · exact hroom.port _ _
  · exact hroom

theorem writes_transmissionStart (p : Nat) : Writes s (transmissionStart p s) := by
  unfold transmissionStart
  split
  · split
    · exact Writes.refl.port _ _
    · exact .refl
  · exact .refl

theorem writes_completeFrame (f : QFrame) : Writes s (completeFrame f s) :=
  (((writes_returnCells s f).trans (writes_lowerInBuffer _ _)).trans (writes_chargeCheck _ f)).trans
    (writes_lowerLossless _ f)

theorem writes_transmissionCompletion (p : Nat) : Writes s (transmissionCompletion p s) := by
  unfold transmissionCompletion
  dsimp only
  split
  · exact .refl
  · exact .refl
  · split
    · exact .refl
    · exact (Writes.refl.port _ _).trans (writes_completeFrame _ _)

theorem writes_pauseMessageReceived (p : Nat) (good : Bool) (bytes : List Byte) :
    Writes s (pauseMessageReceived p good bytes s) := by
  unfold pauseMessageReceived
  split
  · simp only
    split
    · exact (writes_drawn s _).port _ _
    · exact writes_drawn s _
  · exact .refl

theorem writes_controlMessageSend (p : Nat) : Writes s (controlMessageSend p s) := by
  unfold controlMessageSend
  dsimp only
  split
  · split
    · exact Writes.refl.port _ _
    · exact .refl
  · exact .refl

theorem writes_controlMessageEnd (p : Nat) : Writes s (controlMessageEnd p s) := by
  unfold controlMessageEnd
  dsimp only
  split
  · exact Writes.refl.port _ _
  · exact .refl
  · exact .refl

/-- The expiries that write one port: R136, R141, R145. -/
theorem writes_portIf (b : Prop) [Decidable b] (p : Nat) (r : Port) :
    Writes s (if b then s.setPort p r else s) := by
  split
  · exact Writes.refl.port _ _
  · exact .refl

theorem writes_stormExpiry (p : Nat) : Writes s (stormExpiry p s) := by
  unfold stormExpiry startRecovery
  split
  · exact (((Writes.refl.port _ _).trans (writes_flushQueue _ p .c2)).notice _ _).port _ _
  · exact .refl

theorem writes_laneLoss (p : Nat) : Writes s (laneLoss p s) := by
  have heffect (u : State) : Writes u (laneLossEffect p u) := by
    unfold laneLossEffect
    split
    · exact (Writes.refl.port _ _).trans (writes_leaveUp _ p _)
    · exact writes_enterDown u p
    all_goals exact .refl
  unfold laneLoss
  split
  · exact (Writes.refl.port _ _).trans (heffect _)
  · exact .refl

theorem writes_laneLock (p : Nat) : Writes s (laneLock p s) := by
  have heffect (u : State) : Writes u (laneLockEffect p u) := by
    unfold laneLockEffect
    split
    · exact Writes.refl.port _ _
    · exact Writes.refl.port _ _
    all_goals exact .refl
  unfold laneLock
  split
  · exact (Writes.refl.port _ _).trans (heffect _)
  · exact .refl

theorem writes_debounceExpiry (p : Nat) : Writes s (debounceExpiry p s) := by
  unfold debounceExpiry
  split
  · exact writes_enterDown s p
  · exact .refl

theorem writes_holdDownExpiry (p : Nat) : Writes s (holdDownExpiry p s) := by
  unfold holdDownExpiry
  split
  · exact (Writes.refl.port _ _).notice _ _
  · exact .refl

theorem writes_visitStation (j : Jobs) (i : Nat) : Writes s (visitStation j i s) := by
  unfold visitStation
  split
  · split
    · exact (Writes.refl.station _ _).tenant _ _
    · exact .refl
  · exact .refl

theorem writes_visitPin (j : Jobs) (i : Nat) : Writes s (visitPin j i s) := by
  unfold visitPin
  split
  · exact Writes.refl.pin _ _
  · exact .refl

/-- A running pass moves on: it carries the same jobs. -/
theorem writes_passMoves {q : Pass} (q' : Pass) (hq : s.pass = some q) (hc : q'.carried = q.carried) :
    Writes s { s with pass := some q' } :=
  Writes.refl.sweep s.jobs (some q') fun hj hcar => ⟨hj, by
    simp only [State.carried, hq] at hcar ⊢
    rwa [hc]⟩

theorem visitStation_pass (j : Jobs) (i : Nat) : (visitStation j i s).pass = s.pass := by
  unfold visitStation
  split
  · split <;> rfl
  · rfl

theorem visitPin_pass (j : Jobs) (i : Nat) : (visitPin j i s).pass = s.pass := by
  unfold visitPin
  split <;> rfl

theorem writes_endPass (j : Jobs) : Writes s (endPass j s) := by
  have hfold (l : List Nat) (u : State) :
      Writes u (l.foldl (fun s t => becomeVacantIfDone t s) u) := by
    induction l generalizing u with
    | nil => exact .refl
    | cons t rest ih => exact (writes_becomeVacantIfDone u t).trans (ih _)
  have hended : Writes s { s with pass := none } :=
    Writes.refl.sweep s.jobs none fun hj _ => ⟨hj, rfl, rfl, rfl⟩
  exact ((hended.trans (writes_pendAll _ _ _)).trans (writes_pendAll _ _ _)).trans (hfold _ _)

end Events

end Sys2Proof.Proofs.Outcomes

namespace Sys2Proof.Proofs.Outcomes

open Sys2Proof Sys2Proof.Machine Sys2Proof.Safety

/-! ### The request rows (R179, R182) -/

/-- The messages whose effect event a row is. -/
def rowTakes : Instr → Message → Bool
  | .tenantOpen => ofKind 1 | .tenantAmend => ofKind 2 | .tenantTopup => ofKind 3
  | .tenantCollect => ofKind 4 | .tenantRead => ofKind 5 | .tenantSuspend => ofKind 6
  | .tenantResume => ofKind 7 | .tenantRetire => ofKind 8 | .profileWrite => ofKind 9
  | .profileRead => ofKind 10 | .clockSet => ofKind 11 | .clockRead => ofKind 12
  | .stationInsert => ofKind 13 | .stationFind => ofKind 14 | .stationRemove => ofKind 15
  | .stationAging => ofKind 16 | .pathsetWrite => ofKind 17 | .pathsetRead => ofKind 18
  | .pinRead => ofKind 19 | .policyWrite => ofKind 20 | .queueRead => ofKind 21
  | .pauseWrite => ofKind 22 | .pauseRead => ofKind 23
  | .linkAdminDown => fun m => ofKind 24 m && num m 2 != 1
  | .linkAdminUp => fun m => ofKind 24 m && num m 2 == 1
  | .linkTiming => ofKind 25 | .linkRead => ofKind 26 | .sweepRead => ofKind 27
  | .noticeFetch => ofKind 28 | .noticeMask => ofKind 29
  | _ => unknownKindOf

/-- What a row's effect event answers. -/
def rowEffect : Instr → Message → State → Answer
  | .tenantOpen => tenantOpenEffect | .tenantAmend => tenantAmendEffect
  | .tenantTopup => tenantTopupEffect | .tenantCollect => tenantCollectEffect
  | .tenantRead => tenantReadEffect | .tenantSuspend => tenantSuspendEffect
  | .tenantResume => tenantResumeEffect | .tenantRetire => tenantRetireEffect
  | .profileWrite => profileWriteEffect | .profileRead => profileReadEffect
  | .clockSet => clockSetEffect | .clockRead => clockReadEffect
  | .stationInsert => stationInsertEffect | .stationFind => stationFindEffect
  | .stationRemove => stationRemoveEffect | .stationAging => stationAgingEffect
  | .pathsetWrite => pathsetWriteEffect | .pathsetRead => pathsetReadEffect
  | .pinRead => pinReadEffect | .policyWrite => policyWriteEffect | .queueRead => queueReadEffect
  | .pauseWrite => pauseWriteEffect | .pauseRead => pauseReadEffect
  | .linkAdminDown => linkAdminDownEffect | .linkAdminUp => linkAdminUpEffect
  | .linkTiming => linkTimingEffect | .linkRead => linkReadEffect | .sweepRead => sweepReadEffect
  | .noticeFetch => noticeFetchEffect | .noticeMask => noticeMaskEffect
  | _ => fun _ s => refuseWith .malformed s

/-- A request row is the effect event of the messages it takes. -/
theorem exec_row {c : Instr} (hc : c ∈ requestRows) (s : State) :
    exec c s = effectEvent (rowTakes c) (rowEffect c) s := by
  cases c <;> first | rfl | simp [requestRows] at hc

/-- The row named for a message takes it. -/
theorem rowTakes_requestRow (m : Message) :
    requestRow m ∈ requestRows ∧ rowTakes (requestRow m) m = true := by
  unfold requestRow
  split
  case h_24 h => split <;> simp_all [requestRows, rowTakes, ofKind]
  case h_30 =>
    refine ⟨by simp [requestRows], ?_⟩
    simp only [rowTakes, unknownKindOf, Bool.or_eq_true, beq_iff_eq, decide_eq_true_eq]
    simp only [imp_false] at *
    omega
  all_goals
    rename_i h
    exact ⟨by decide, beq_iff_eq.mpr h⟩

/-- No other row takes it. -/
theorem eq_requestRow_of_rowTakes {c : Instr} {m : Message} (hc : c ∈ requestRows)
    (h : rowTakes c m = true) : c = requestRow m := by
  cases c
  case unknownKind =>
    simp only [rowTakes, unknownKindOf, Bool.or_eq_true, beq_iff_eq, decide_eq_true_eq] at h
    unfold requestRow
    split <;> first | rfl | omega
  case linkAdminDown =>
    simp only [rowTakes, ofKind, Bool.and_eq_true, beq_iff_eq, bne_iff_ne] at h
    simp only [requestRow, h.1, if_neg h.2]
  case linkAdminUp =>
    simp only [rowTakes, ofKind, Bool.and_eq_true, beq_iff_eq] at h
    simp only [requestRow, h.1, if_pos h.2]
  all_goals first
    | (simp only [rowTakes, ofKind, beq_iff_eq] at h; simp only [requestRow, h]; done)
    | simp [requestRows] at hc

end Sys2Proof.Proofs.Outcomes

namespace Sys2Proof.Proofs.Outcomes

open Sys2Proof Sys2Proof.Machine Sys2Proof.Safety Sys2Proof.Proofs.TenantRead

/-! ### The effect events are writes, but for the fetch and the mask -/

section Effects
variable (m : Message) (s : State)

/-- R7: a tenant request changes nothing unless its effect does. -/
theorem writes_needTenant (ok : Bool) (effect : Nat → Tenant → Answer)
    (h : ∀ t r, Writes s (effect t r).state) : Writes s (needTenant m ok s effect).state := by
  unfold needTenant
  split
  · exact .refl
  · split
    · exact .refl
    · exact h _ _

theorem writes_tenantOpenEffect : Writes s (tenantOpenEffect m s).state := by
  unfold tenantOpenEffect
  split
  · exact .refl
  · split
    · exact .refl
    · split
      · exact .refl
      · exact Writes.refl.tenant _ _

theorem writes_tenantAmendEffect : Writes s (tenantAmendEffect m s).state := by
  unfold tenantAmendEffect
  split
  · exact .refl
  · refine writes_needTenant m s _ _ fun t r => ?_
    split
    · exact .refl
    · split
      · exact .refl
      · exact Writes.refl.tenant _ _

theorem writes_stationInsertEffect : Writes s (stationInsertEffect m s).state := by
  have h0 := writes_drawn s (isWideAddress m 2)
  unfold stationInsertEffect
  dsimp only
  split
  · exact h0
  · split
    · exact h0
    · split
      · exact h0
      · split
        · exact h0
        · unfold insertEntry
          dsimp only
          split
          · exact h0.station _ _
          · split
            · exact h0
            · split
              · exact h0
              · exact (h0.station _ _).tenant _ _

theorem writes_stationFindEffect : Writes s (stationFindEffect m s).state := by
  have h0 := writes_drawn s (isWideAddress m 2)
  unfold stationFindEffect
  dsimp only
  split
  · exact h0
  · split <;> exact h0

theorem writes_stationRemoveEffect : Writes s (stationRemoveEffect m s).state := by
  have h0 := writes_drawn s (isWideAddress m 2)
  unfold stationRemoveEffect
  dsimp only
  split
  · exact h0
  · split
    · exact (h0.station _ _).tenant _ _
    · exact h0

theorem writes_pathsetWriteEffect : Writes s (pathsetWriteEffect m s).state := by
  unfold pathsetWriteEffect
  split
  · exact .refl
  · exact ((writes_drawn s _).pathSets _ (tableSet_wf _ _ _ _)).trans (writes_postRebalance _ _)

theorem writes_retestPort (p : Nat) : Writes s (retestPort s p) := by
  unfold retestPort
  dsimp only
  split <;> exact Writes.refl.port _ _

theorem writes_retestPorts (l : List Nat) : Writes s (l.foldl retestPort s) := by
  induction l generalizing s with
  | nil => exact .refl
  | cons p rest ih => exact (writes_retestPort s p).trans (ih _)

theorem writes_pauseWriteEffect : Writes s (pauseWriteEffect m s).state := by
  unfold pauseWriteEffect
  split
  · exact .refl
  · dsimp only
    refine .trans ?_ (writes_retestPorts _ _)
    have h := (writes_drawn s (isWide m 4)).settings s.agingInterval s.pinExpiry s.policies
    unfold State.drawn at *
    split <;> simp_all

theorem writes_linkAdminDownEffect : Writes s (linkAdminDownEffect m s).state := by
  unfold linkAdminDownEffect
  split
  · exact .refl
  · show Writes s (adminDown (num m 1) s)
    unfold adminDown
    split
    · exact (writes_leaveUp s _ _).trans (writes_downEffects _ _)
    · exact (Writes.refl.port _ _).trans (writes_downEffects _ _)
    · exact (Writes.refl.port _ _).trans (writes_downEffects _ _)
    · exact Writes.refl.port _ _
    · exact .refl

theorem writes_linkAdminUpEffect : Writes s (linkAdminUpEffect m s).state := by
  unfold linkAdminUpEffect
  split
  · exact .refl
  · show Writes s (adminUp (num m 1) s)
    unfold adminUp
    split
    · split <;> exact Writes.refl.port _ _
    all_goals exact .refl

/-- Every effect event but NOTICE_FETCH and NOTICE_MASK. -/
theorem writes_rowEffect {c : Instr} (hc : c ∈ requestRows) (hf : c ≠ .noticeFetch)
    (hk : c ≠ .noticeMask) : Writes s (rowEffect c m s).state := by
  cases c
  case unknownKind => exact .refl
  case tenantOpen => exact writes_tenantOpenEffect m s
  case tenantAmend => exact writes_tenantAmendEffect m s
  case tenantTopup =>
    refine writes_needTenant m s _ _ fun t r => ?_
    split
    · exact .refl
    · exact Writes.refl.tenant _ _
  case tenantCollect => exact writes_needTenant m s _ _ fun t r => Writes.refl.tenant _ _
  case tenantRead => exact writes_needTenant m s _ _ fun t r => .refl
  case tenantSuspend =>
    refine writes_needTenant m s _ _ fun t r => ?_
    split
    · exact Writes.refl.tenant _ _
    · exact .refl
  case tenantResume =>
    refine writes_needTenant m s _ _ fun t r => ?_
    split
    · exact Writes.refl.tenant _ _
    · exact .refl
  case tenantRetire =>
    refine writes_needTenant m s _ _ fun t r => ?_
    split
    · exact .refl
    · exact (writes_postPurge s _).tenant _ _
  case profileWrite =>
    show Writes s (profileWriteEffect m s).state
    unfold profileWriteEffect
    split
    · exact .refl
    · exact (writes_drawn s _).profile _ _
  case profileRead => show Writes s (profileReadEffect m s).state; unfold profileReadEffect; split <;> exact .refl
  case clockSet =>
    show Writes s (clockSetEffect m s).state
    unfold clockSetEffect
    split
    · exact .refl
    · exact Writes.refl.clock _ s.nextAging
  case clockRead => exact .refl
  case stationInsert => exact writes_stationInsertEffect m s
  case stationFind => exact writes_stationFindEffect m s
  case stationRemove => exact writes_stationRemoveEffect m s
  case stationAging => exact Writes.refl.settings _ _ s.policies s.pauseSettings s.linkSettings
  case pathsetWrite => exact writes_pathsetWriteEffect m s
  case pathsetRead => show Writes s (pathsetReadEffect m s).state; unfold pathsetReadEffect; split <;> exact .refl
  case pinRead => show Writes s (pinReadEffect m s).state; unfold pinReadEffect; split <;> exact .refl
  case policyWrite =>
    show Writes s (policyWriteEffect m s).state
    unfold policyWriteEffect
    split
    · exact Writes.refl.settings s.agingInterval s.pinExpiry _ s.pauseSettings s.linkSettings
    · exact .refl
  case queueRead =>
    show Writes s (queueReadEffect m s).state
    unfold queueReadEffect
    split
    · exact .refl
    · split <;> exact .refl
  case pauseWrite => exact writes_pauseWriteEffect m s
  case pauseRead => show Writes s (pauseReadEffect m s).state; unfold pauseReadEffect; split <;> exact .refl
  case linkAdminDown => exact writes_linkAdminDownEffect m s
  case linkAdminUp => exact writes_linkAdminUpEffect m s
  case linkTiming => exact Writes.refl.settings s.agingInterval s.pinExpiry s.policies s.pauseSettings _
  case linkRead => show Writes s (linkReadEffect m s).state; unfold linkReadEffect; split <;> exact .refl
  case sweepRead => show Writes s (sweepReadEffect m s).state; unfold sweepReadEffect; split <;> exact .refl
  case noticeFetch => exact absurd rfl hf
  case noticeMask => exact absurd rfl hk
  all_goals simp [requestRows] at hc

end Effects

/-! ### The shape of every outcome -/

/-- What the host's own writes do (R177, R178, R180). -/
inductive HostWrite (s : State) : State → Prop
  | area (i : Nat) (w : Word) : HostWrite s { s with postingArea := s.postingArea.set i w }
  | post (w : Word) (h : s.requests.length < 32) :
      HostWrite s { s with
        postingArea := s.postingArea.set 31 w, requests := s.requests ++ [s.postingArea.set 31 w] }
  | control (w : Word) : HostWrite s (controlWrite w s)
  | take (m : Message) (rest : List Message) (hq : s.requests = m :: rest) (hr : s.replies.length < 32) :
      HostWrite s { s with requests := rest, execution := some { message := m, keepReply := true } }

/-- The outcomes of the commands but POWER_ON. -/
inductive Outcome (s : State) : State → Prop
  | event {t : State} (h : Writes s t) : Outcome s t
  | host {t : State} (h : HostWrite s t) : Outcome s t
  | overrun (w : Word) :
      Outcome s (pend .postingOverrun 0 { s with postingArea := s.postingArea.set 31 w, overrun := true })
  | controlReset :
      Outcome s { s with
        requests := [], replies := [], postingArea := zeroMessage, overrun := false, notices := []
        masks := allMasked, execution := s.execution.map fun e => { e with keepReply := false } }
  | answer {e : Execution} {a : Answer} (he : s.execution = some e) (h : Writes s a.state) :
      Outcome s (finishRequest e a)
  | fetch {e : Execution} (he : s.execution = some e) :
      Outcome s (finishRequest e (noticeFetchEffect e.message s))
  | mask {e : Execution} (he : s.execution = some e) :
      Outcome s (finishRequest e (noticeMaskEffect e.message s))

/-- A request row does nothing, or answers the request in execution. -/
theorem exec_row_outcome {c : Instr} (hc : c ∈ requestRows) {s t : State} (h : exec c s = .next t) :
    t = s ∨ ∃ e, s.execution = some e ∧ rowTakes c e.message = true
      ∧ t = finishRequest e (rowEffect c e.message s) := by
  rw [exec_row hc] at h
  rcases effectEvent_cases (rowTakes c) (rowEffect c) s with hn | ⟨e, he, hm, hn⟩
  · rw [hn] at h
    exact .inl (Host.Outcome.next.inj h).symm
  · rw [hn] at h
    exact .inr ⟨e, he, hm, (Host.Outcome.next.inj h).symm⟩

theorem outcome_of_atPort {p : Nat} {f : State → State} {s t : State} (hf : Writes s (f s))
    (h : atPort p f s = .next t) : Outcome s t := by
  unfold atPort at h
  split at h
  · exact .event (Host.Outcome.next.inj h ▸ hf)
  · cases h

theorem outcome_post (w : Word) (s : State) :
    Outcome s (postMessage (s.postingArea.set 31 w) { s with postingArea := s.postingArea.set 31 w }) := by
  unfold postMessage
  split
  · next h => exact .host (.post w h)
  · exact .overrun w

theorem outcome_requestTake {s t : State} (h : execRequestTake s = .next t) : Outcome s t := by
  cases h
  by_cases hd : s.takeDue = true
  · rw [if_pos hd]
    simp only [State.takeDue, Bool.and_eq_true, decide_eq_true_eq, Bool.not_eq_true'] at hd
    obtain ⟨⟨hq, -⟩, hr⟩ := hd
    rcases hreq : s.requests with _ | ⟨m, rest⟩
    · simp [hreq] at hq
    · exact .host (.take m rest hreq hr)
  · rw [if_neg hd]
    exact .event .refl

theorem writes_passStart (s : State) :
    Writes s (if s.passDue then
      { s with jobs := noJobs, pass := some { carried := s.jobs, phase := .stations, position := 0 } }
      else s) := by
  split
  · exact Writes.refl.sweep noJobs _ fun hj _ => ⟨⟨rfl, rfl, rfl⟩, hj⟩
  · exact .refl

theorem writes_stationVisit {s t : State} (h : execStationVisit s = .next t) : Writes s t := by
  cases h
  rcases hp : s.pass with _ | q
  · exact .refl
  · dsimp only
    split
    · refine (writes_visitStation s _ _).trans (writes_passMoves _ _ ((visitStation_pass s _ _).trans hp) ?_)
      unfold Pass.afterStation
      split <;> rfl
    · exact .refl

theorem writes_pinVisit {s t : State} (h : execPinVisit s = .next t) : Writes s t := by
  cases h
  rcases hp : s.pass with _ | q
  · exact .refl
  · dsimp only
    split
    · exact .refl
    · split
      · exact (writes_visitPin s _ _).trans (writes_passMoves _ _ ((visitPin_pass s _ _).trans hp) rfl)
      · exact .refl

/-- Every command but POWER_ON. -/
theorem exec_outcome {c : Instr} {s t : State} (hc : c ≠ .powerOn) (h : exec c s = .next t) :
    Outcome s t := by
  by_cases hr : c ∈ requestRows
  · rcases exec_row_outcome hr h with rfl | ⟨e, he, -, rfl⟩
    · exact .event .refl
    · by_cases hf : c = .noticeFetch
      · subst hf; exact .fetch he
      · by_cases hk : c = .noticeMask
        · subst hk; exact .mask he
        · exact .answer he (writes_rowEffect _ s hr hf hk)
  cases c
  case powerOn => exact absurd rfl hc
  case controlReset => cases h; exact .controlReset
  case frameTaken p good bytes =>
    change execFrameTaken p good bytes s = _ at h
    unfold execFrameTaken at h
    split at h
    · cases h
      split
      · exact .event (writes_intake s _ _)
      · exact .event .refl
    · cases h
  case pauseMessageReceived => exact outcome_of_atPort (writes_pauseMessageReceived s _ _ _) h
  case resolutionEvent =>
    cases h
    refine .event ?_
    split
    · split
      · exact writes_resolveCopy s _ _ _
      all_goals exact .refl
    · exact .refl
  case admission =>
    cases h
    refine .event ?_
    split
    · split
      · split
        · exact (writes_dropNext s _).trans (writes_admitCopy _ _ _)
        · exact writes_dropNext s _
      · exact .refl
    · exact .refl
  case transmissionStart => exact outcome_of_atPort (writes_transmissionStart s _) h
  case transmissionCompletion => exact outcome_of_atPort (writes_transmissionCompletion s _) h
  case controlMessageSend => exact outcome_of_atPort (writes_controlMessageSend s _) h
  case controlMessageEnd => exact outcome_of_atPort (writes_controlMessageEnd s _) h
  case renewalExpiry => exact outcome_of_atPort (writes_portIf s _ _ _) h
  case pauseExpiry => exact outcome_of_atPort (writes_portIf s _ _ _) h
  case stormExpiry => exact outcome_of_atPort (writes_stormExpiry s _) h
  case recoveryExpiry => exact outcome_of_atPort (writes_portIf s _ _ _) h
  case laneLoss => exact outcome_of_atPort (writes_laneLoss s _) h
  case laneLock => exact outcome_of_atPort (writes_laneLock s _) h
  case debounceExpiry => exact outcome_of_atPort (writes_debounceExpiry s _) h
  case holdDownExpiry => exact outcome_of_atPort (writes_holdDownExpiry s _) h
  case agingPosting =>
    cases h
    split
    · exact .event ((Writes.refl.clock s.clock _).trans (writes_postAging _))
    · exact .event .refl
  case clockAdvance =>
    cases h
    split
    · exact .event (Writes.refl.clock _ s.nextAging)
    · exact .event .refl
  case passStart => cases h; exact .event (writes_passStart s)
  case stationVisit => exact .event (writes_stationVisit h)
  case pinVisit => exact .event (writes_pinVisit h)
  case passEnd =>
    cases h
    refine .event ?_
    split
    · split
      · exact writes_endPass s _
      · exact .refl
    · exact .refl
  case postingAreaWrite i w =>
    change execPostingAreaWrite i w s = _ at h
    unfold execPostingAreaWrite at h
    split at h
    · cases h; exact .host (.area i w)
    · cases h
  case post w => cases h; exact outcome_post w s
  case release w =>
    change execRelease w s = _ at h
    unfold execRelease at h
    split at h
    · cases h; exact .host (.control w)
    · cases h
  case overrunFlagClear w =>
    change execOverrunFlagClear w s = _ at h
    unfold execOverrunFlagClear at h
    split at h
    · cases h; exact .host (.control w)
    · cases h
  case requestTake => exact outcome_requestTake h
  all_goals exact absurd (by simp [requestRows]) hr

end Sys2Proof.Proofs.Outcomes

namespace Sys2Proof.Proofs.Outcomes

open Sys2Proof Sys2Proof.Machine Sys2Proof.Safety Sys2Proof.Proofs.TenantRead

/-! ### The fetch and the mask -/

theorem noticeFetchEffect_state (m : Message) (s : State) :
    (noticeFetchEffect m s).state = s.drawn (isOddFlag m 1)
      ∨ ∃ k x, (noticeFetchEffect m s).state
          = (s.drawn (isOddFlag m 1)).setNotices k (setErase (s.noticeSet k) x) := by
  unfold noticeFetchEffect
  dsimp only
  split
  · exact .inr ⟨_, _, rfl⟩
  · exact .inl rfl

theorem noticeMaskEffect_state (m : Message) (s : State) :
    (noticeMaskEffect m s).state = { s with
      masks := (word m 1).extractLsb' 0 11
      interruptsSent := s.interruptsSent + (!s.interruptCondition
        && { s with masks := (word m 1).extractLsb' 0 11 }.interruptCondition).toNat } :=
  sendInterrupt_eq s { s with masks := (word m 1).extractLsb' 0 11 }

theorem drawn_eq (s : State) (b : Bool) : ∃ d, s.drawn b = { s with draws := d } := by
  cases b
  · exact ⟨s.draws, rfl⟩
  · exact ⟨s.draws + 1, rfl⟩

/-- NOTICE_FETCH leaves all but the pending sets and the counter of free values. -/
theorem noticeFetchEffect_eq (m : Message) (s : State) :
    ∃ d l, (noticeFetchEffect m s).state = { s with draws := d, notices := l } := by
  obtain ⟨d, hd⟩ := drawn_eq s (isOddFlag m 1)
  rcases noticeFetchEffect_state m s with h | ⟨k, x, h⟩ <;> rw [h, hd]
  · exact ⟨d, s.notices, rfl⟩
  · exact ⟨d, _, rfl⟩

/-! ### The queue of commands (O3) -/

theorem Outcome.pending {s t : State} (h : Outcome s t) : t.pending = s.pending := by
  cases h with
  | event h => exact h.sameHost.1
  | host h => cases h <;> rfl
  | overrun w => exact pend_pending _ _ _
  | controlReset => rfl
  | answer _ h => exact h.sameHost.1
  | @fetch e _ =>
    obtain ⟨d, l, h⟩ := noticeFetchEffect_eq e.message s
    show (noticeFetchEffect e.message s).state.pending = _
    rw [h]
  | @mask e _ =>
    show (noticeMaskEffect e.message s).state.pending = _
    rw [noticeMaskEffect_state]

/-- Settles O3, by the shape of the outcomes: no write is to the queue of commands. -/
theorem commandsLeaveTheQueue : Obligations.CommandsLeaveTheQueue := by
  unfold Obligations.CommandsLeaveTheQueue
  intro c s t h
  by_cases hc : c = .powerOn
  · subst hc; cases h; rfl
  · exact (exec_outcome hc h).pending

/-! ### Which commands stop (O4) -/

theorem atPort_stops (p : Nat) (f : State → State) (s : State) :
    (decide (p < 40) = true → ∃ t, atPort p f s = .next t)
    ∧ (decide (p < 40) = false → atPort p f s = .refused .illFormed) := by
  refine ⟨fun h => ⟨_, atPort_of_lt f s (of_decide_eq_true h)⟩, fun h => atPort_of_ge f s ?_⟩
  exact Nat.not_lt.mp (of_decide_eq_false h)

theorem effectEvent_next (mine : Message → Bool) (effect : Message → State → Answer) (s : State) :
    ∃ t, effectEvent mine effect s = .next t := by
  rcases effectEvent_cases mine effect s with h | ⟨e, -, -, h⟩
  · exact ⟨_, h⟩
  · exact ⟨_, h⟩

theorem requestRow_wellFormed {c : Instr} (hc : c ∈ requestRows) : c.wellFormed = true := by
  unfold requestRows at hc
  fin_cases hc <;> rfl

/-- Settles O4: a request row always answers a next state, a row at a port by the port's number. -/
theorem onlyIllFormedCommandsStop : Obligations.OnlyIllFormedCommandsStop := by
  unfold Obligations.OnlyIllFormedCommandsStop
  intro c s
  by_cases hr : c ∈ requestRows
  · rw [exec_row hr, requestRow_wellFormed hr]
    exact ⟨fun _ => effectEvent_next _ _ s, fun h => nomatch h⟩
  cases c
  case frameTaken p good bytes =>
    change _ ∧ (_ → execFrameTaken p good bytes s = _)
    by_cases hp : p < 40 <;> simp [Instr.wellFormed, exec, execFrameTaken, hp]
  case postingAreaWrite i w =>
    change _ ∧ (_ → execPostingAreaWrite i w s = _)
    by_cases hi : i < 31 <;> simp [Instr.wellFormed, exec, execPostingAreaWrite, hi]
  case release w =>
    exact ⟨fun h => ⟨_, if_pos h⟩, fun h => if_neg (Bool.eq_false_iff.mp h)⟩
  case overrunFlagClear w =>
    exact ⟨fun h => ⟨_, if_pos h⟩, fun h => if_neg (Bool.eq_false_iff.mp h)⟩
  all_goals first
    | exact atPort_stops _ _ s
    | exact ⟨fun _ => ⟨_, rfl⟩, fun h => nomatch h⟩
    | exact absurd (by simp [requestRows]) hr

/-! ### One answer for each request (O8) -/

theorem num_envelope (m : Message) (st : Status) (body : List Word) :
    num (replyTo m st body) 0 = kindOf m + 256 * st.code + 65536 * tagOf m := by
  have hword : word (replyTo m st body) 0 = out (kindOf m + 256 * st.code + 65536 * tagOf m) :=
    word_padded (i := 0) _ (by decide)
  have hkind : kindOf m < 256 := Nat.mod_lt _ (by decide)
  have hcode : st.code ≤ 8 := by cases st <;> decide
  have htag : tagOf m < 65536 := by
    have h : num m 0 < 4294967296 := (word m 0).isLt
    unfold tagOf
    omega
  unfold num
  rw [hword]
  exact out_toNat_of_lt (by omega)

theorem envelope_reads_back (m : Message) (st : Status) (body : List Word) :
    (replyTo m st body).length = 32 ∧ kindOf (replyTo m st body) = kindOf m
      ∧ num (replyTo m st body) 0 / 256 % 256 = st.code ∧ tagOf (replyTo m st body) = tagOf m := by
  have hkind : kindOf m < 256 := Nat.mod_lt _ (by decide)
  have hcode : st.code ≤ 8 := by cases st <;> decide
  refine ⟨replyTo_length m st body, ?_, ?_, ?_⟩
  · show num (replyTo m st body) 0 % 256 = _
    rw [num_envelope]; omega
  · rw [num_envelope]; omega
  · show num (replyTo m st body) 0 / 65536 = _
    rw [num_envelope]; omega

/-- No effect event touches the request engine: the reply and the end of the execution are the request's. -/
theorem rowEffect_engine {c : Instr} (hc : c ∈ requestRows) (m : Message) (s : State) :
    (rowEffect c m s).state.replies = s.replies ∧ (rowEffect c m s).state.requests = s.requests
      ∧ (rowEffect c m s).state.postingArea = s.postingArea
      ∧ (rowEffect c m s).state.overrun = s.overrun := by
  by_cases hf : c = .noticeFetch
  · subst hf
    obtain ⟨d, l, h⟩ := noticeFetchEffect_eq m s
    change (noticeFetchEffect m s).state.replies = _ ∧ (noticeFetchEffect m s).state.requests = _
      ∧ (noticeFetchEffect m s).state.postingArea = _ ∧ (noticeFetchEffect m s).state.overrun = _
    rw [h]
    exact ⟨rfl, rfl, rfl, rfl⟩
  · by_cases hk : c = .noticeMask
    · subst hk
      change (noticeMaskEffect m s).state.replies = _ ∧ (noticeMaskEffect m s).state.requests = _
        ∧ (noticeMaskEffect m s).state.postingArea = _ ∧ (noticeMaskEffect m s).state.overrun = _
      rw [noticeMaskEffect_state]
      exact ⟨rfl, rfl, rfl, rfl⟩
    · obtain ⟨-, -, -, harea, hreq, -, hrep, hover⟩ := (writes_rowEffect m s hc hf hk).sameHost
      exact ⟨hrep, hreq, harea, hover⟩

theorem exec_requestRow {s : State} {m : Message} {keep : Bool}
    (he : s.execution = some { message := m, keepReply := keep }) :
    exec (requestRow m) s
      = .next (finishRequest { message := m, keepReply := keep } (rowEffect (requestRow m) m s)) := by
  obtain ⟨hrow, hmine⟩ := rowTakes_requestRow m
  rw [exec_row hrow]
  exact effectEvent_of_mine _ he hmine

/-- Settles O8: the row of the message is the only one that takes it, and `finishRequest` ends it. -/
theorem eachRequestIsAnsweredOnceByItsOwnRow : Obligations.EachRequestIsAnsweredOnceByItsOwnRow := by
  unfold Obligations.EachRequestIsAnsweredOnceByItsOwnRow
  refine ⟨fun s m keep he => ⟨?_, fun c hc hne => ?_⟩, fun s he c hc => ?_, envelope_reads_back⟩
  · obtain ⟨hrep, hreq, harea, hover⟩ := rowEffect_engine (rowTakes_requestRow m).1 m s
    refine ⟨_, (rowEffect (requestRow m) m s).status, (rowEffect (requestRow m) m s).body,
      exec_requestRow he, rfl, ?_, hreq, harea, hover⟩
    rw [← hrep]
    rfl
  · rw [exec_row hc]
    refine effectEvent_of_other _ he ?_
    exact Bool.eq_false_iff.mpr fun h => hne (eq_requestRow_of_rowTakes hc h)
  · rw [exec_row hc]
    exact effectEvent_of_none _ he

/-! ### The interrupt messages (O11) -/

/-- The condition reads the masks and the pending sets. -/
theorem interruptCondition_congr {s t : State} (hm : t.masks = s.masks) (hn : t.notices = s.notices) :
    t.interruptCondition = s.interruptCondition := by
  simp only [State.interruptCondition, State.masked, State.noticeSet, hm, hn]

/-- R184: with every kind masked the condition does not hold. -/
theorem interruptCondition_of_allMasked {s : State} (h : s.masks = allMasked) :
    s.interruptCondition = false := by
  simp only [State.interruptCondition, State.masked, h]
  rfl

/-- A source fetched can only make the condition fall. -/
theorem interruptCondition_erase {s : State} (k : NoticeKind) (x : Nat)
    (h : (s.setNotices k (setErase (s.noticeSet k) x)).interruptCondition = true) :
    s.interruptCondition = true := by
  obtain ⟨j, hj, hcond⟩ := List.any_eq_true.mp h
  refine List.any_eq_true.mpr ⟨j, hj, ?_⟩
  simp only [State.masked, State.setNotices_masks, State.noticeSet_set, Bool.and_eq_true,
    Bool.not_eq_true', List.isEmpty_eq_false_iff] at hcond ⊢
  refine ⟨hcond.1, fun hnil => hcond.2 ?_⟩
  split
  · next hjk => subst hjk; rw [hnil]; rfl
  · exact hnil

/-- Settles O11: writes and pends make the condition rise and count its turn; a fetch or a control reset only
lets it fall; the mask counts its own turn. -/
theorem interruptsFollowTheCondition : Obligations.InterruptsFollowTheCondition := by
  unfold Obligations.InterruptsFollowTheCondition
  intro c s t hc hexec
  have hsame (b : Bool) (n : Nat) : n = n + (!b && b).toNat := by cases b <;> rfl
  cases exec_outcome hc hexec with
  | event h => exact h.rises.2
  | host h => cases h <;> exact hsame _ _
  | overrun w => exact (rises_pend _ _ _).2
  | controlReset =>
    have hoff (u : State) (hu : u.masks = allMasked) :
        (!s.interruptCondition && u.interruptCondition) = false := by
      rw [interruptCondition_of_allMasked hu, Bool.and_false]
    rw [hoff _ rfl]
    rfl
  | answer _ h => exact h.rises.2
  | @fetch e _ =>
    obtain ⟨d, hd⟩ := drawn_eq s (isOddFlag e.message 1)
    rcases noticeFetchEffect_state e.message s with heq | ⟨k, x, heq⟩
    · have hcond : (finishRequest e (noticeFetchEffect e.message s)).interruptCondition
          = s.interruptCondition := by
        refine interruptCondition_congr ?_ ?_ <;> simp only [finishRequest, heq, hd]
      rw [hcond, ← hsame]
      simp only [finishRequest, heq, hd]
    · have hcond : (finishRequest e (noticeFetchEffect e.message s)).interruptCondition
          = (s.setNotices k (setErase (s.noticeSet k) x)).interruptCondition := by
        refine interruptCondition_congr ?_ ?_ <;> simp only [finishRequest, heq, hd] <;> rfl
      have hsent : (finishRequest e (noticeFetchEffect e.message s)).interruptsSent = s.interruptsSent := by
        simp only [finishRequest, heq, hd]
        rfl
      rw [hcond, hsent]
      cases hs : s.interruptCondition
      · rw [Bool.eq_false_iff.mpr fun h => Bool.eq_false_iff.mp hs (interruptCondition_erase k x h)]
        rfl
      · rfl
  | @mask e _ =>
    have hcond : (finishRequest e (noticeMaskEffect e.message s)).interruptCondition
        = { s with masks := (word e.message 1).extractLsb' 0 11 }.interruptCondition := by
      refine interruptCondition_congr ?_ ?_ <;> simp only [finishRequest, noticeMaskEffect_state]
    rw [hcond]
    simp only [finishRequest, noticeMaskEffect_state]

/-! ### The canonical form (O59) -/

theorem canonical_reset : Canonical State.reset :=
  ⟨rfl, rfl, rfl, rfl, rfl, rfl, rfl, fun _ => rfl, ⟨rfl, rfl, rfl⟩, ⟨rfl, rfl, rfl⟩⟩

/-- Every set of notices canonical, and the table of them. -/
theorem canonical_setNotices {s : State} (k : NoticeKind) {l : NatSet} (hs : Canonical s)
    (hl : setWf l = true) : Canonical (s.setNotices k l) := by
  obtain ⟨ht, hp, hst, hset, hpin, hport, hn, hk, hj, hc⟩ := hs
  refine ⟨ht, hp, hst, hset, hpin, hport, tableSet_wf _ _ _ _ hn, fun j => ?_, hj, hc⟩
  rw [State.noticeSet_set]
  split
  · exact hl
  · exact hk j

theorem Outcome.canonical {s t : State} (h : Outcome s t) (hs : Canonical s) : Canonical t := by
  cases h with
  | event h => exact h.canonical hs
  | host h => cases h <;> exact hs
  | overrun w =>
    exact (Writes.refl.notice .postingOverrun 0).canonical
      (s := { s with postingArea := s.postingArea.set 31 w, overrun := true }) hs
  | controlReset =>
    obtain ⟨ht, hp, hst, hset, hpin, hport, -, -, hj, hc⟩ := hs
    exact ⟨ht, hp, hst, hset, hpin, hport, rfl, fun _ => rfl, hj, hc⟩
  | answer _ h => exact h.canonical hs
  | @fetch e _ =>
    have hdrawn : Canonical (s.drawn (isOddFlag e.message 1)) := (writes_drawn s _).canonical hs
    have hstate : Canonical (noticeFetchEffect e.message s).state := by
      rcases noticeFetchEffect_state e.message s with heq | ⟨k, x, heq⟩ <;> rw [heq]
      · exact hdrawn
      · refine canonical_setNotices k hdrawn (setErase_wf _ _ ?_)
        obtain ⟨-, -, -, -, -, -, -, hk, -, -⟩ := hs
        exact hk k
    exact hstate
  | @mask e _ =>
    have hstate : Canonical (noticeMaskEffect e.message s).state := by
      rw [noticeMaskEffect_state]
      exact hs
    exact hstate

/-- What a step does: it runs the command at the front, or counts a microsecond (log entry 3). -/
theorem step_cases {s t : State} (h : step s = .next t) :
    t = s ∨ (s.eventDue = false ∧ t = { s with timebase := s.timebase + 1 })
      ∨ ∃ c rest, s.pending = c :: rest ∧ exec c { s with pending := rest } = .next t := by
  unfold step at h
  generalize hp : s.pending = l at h
  cases l with
  | nil =>
    change tick s = _ at h
    unfold tick at h
    split at h
    · exact .inl (Host.Outcome.next.inj h).symm
    · next hd =>
      split at h
      · exact .inr (.inl ⟨Bool.eq_false_iff.mpr hd, hp ▸ (Host.Outcome.next.inj h).symm⟩)
      · cases h
  | cons c rest => exact .inr (.inr ⟨c, rest, rfl, h⟩)

/-- Settles O59: every write keeps the canonical form. -/
theorem everyStepKeepsTheCanonicalForm : Obligations.EveryStepKeepsTheCanonicalForm := by
  unfold Obligations.EveryStepKeepsTheCanonicalForm
  intro s t hs h
  rcases step_cases h with rfl | ⟨-, rfl⟩ | ⟨c, rest, -, hexec⟩
  · exact hs
  · exact hs
  · by_cases hc : c = .powerOn
    · subst hc; cases hexec; exact canonical_reset
    · exact (exec_outcome hc hexec).canonical hs

end Sys2Proof.Proofs.Outcomes

/-! The ports, one by one: what each operation of the buffer leaves at every port. Frames that leave the buffer
lower a lossless count (`loweredPort`); an aborted frame leaves its queue (`abortedPort`). The statements about
completions, aborts, flushes and the laws of the ports all rest on these equations. -/

namespace Sys2Proof.Proofs.Ports

open Sys2Proof Sys2Proof.Machine Sys2Proof.Safety

/-! ### The ingress side of a port (R133, R135, R137) -/

/-- R133, R137: the port once the C2 frames `l` that entered there have left the buffer. -/
def loweredPort (q : PauseSettings) (l : List QFrame) (r : Port) : Port :=
  if l = [] then r else Port.pauseOffTest { r with losslessCount := r.losslessCount - cellsOf l } q

/-- Whether those frames end the port's pause. -/
def pauseEnds (q : PauseSettings) (l : List QFrame) (r : Port) : Prop :=
  l ≠ [] ∧ r.ingress = .pausing ∧ r.losslessCount - cellsOf l ≤ q.pauseOff

theorem loweredPort_nil (q : PauseSettings) (r : Port) : loweredPort q [] r = r := rfl

theorem loweredPort_of_pauseEnds {q : PauseSettings} {l : List QFrame} {r : Port}
    (h : pauseEnds q l r) :
    loweredPort q l r = { r with
      losslessCount := r.losslessCount - cellsOf l
      ingress := .flowing, slot := some .resume, renewal := none } := by
  obtain ⟨hl, hp, hc⟩ := h
  simp [loweredPort, Port.pauseOffTest, hl, hp, hc]

theorem loweredPort_of_not_pauseEnds {q : PauseSettings} {l : List QFrame} {r : Port}
    (h : ¬pauseEnds q l r) :
    loweredPort q l r = { r with losslessCount := r.losslessCount - cellsOf l } := by
  by_cases hl : l = []
  · subst hl; rfl
  · have hc : ¬(r.ingress = .pausing ∧ r.losslessCount - cellsOf l ≤ q.pauseOff) := fun hc => h ⟨hl, hc⟩
    simp only [loweredPort, hl, if_false, Port.pauseOffTest, if_neg hc]

/-- Lowering a count leaves all but the ingress side. -/
theorem loweredPort_eq (q : PauseSettings) (l : List QFrame) (r : Port) :
    loweredPort q l r = { r with
      losslessCount := r.losslessCount - cellsOf l, ingress := (loweredPort q l r).ingress
      slot := (loweredPort q l r).slot, renewal := (loweredPort q l r).renewal } := by
  by_cases h : pauseEnds q l r
  · rw [loweredPort_of_pauseEnds h]
  · rw [loweredPort_of_not_pauseEnds h]

section Fields
variable (q : PauseSettings) (l : List QFrame) (r : Port)

@[simp] theorem loweredPort_link : (loweredPort q l r).link = r.link := by rw [loweredPort_eq]
@[simp] theorem loweredPort_lane : (loweredPort q l r).lane = r.lane := by rw [loweredPort_eq]
@[simp] theorem loweredPort_debounceEnd : (loweredPort q l r).debounceEnd = r.debounceEnd := by
  rw [loweredPort_eq]
@[simp] theorem loweredPort_holdDownEnd : (loweredPort q l r).holdDownEnd = r.holdDownEnd := by
  rw [loweredPort_eq]
@[simp] theorem loweredPort_flapHistory : (loweredPort q l r).flapHistory = r.flapHistory := by
  rw [loweredPort_eq]
@[simp] theorem loweredPort_losslessCount :
    (loweredPort q l r).losslessCount = r.losslessCount - cellsOf l := by
  rw [loweredPort_eq]
@[simp] theorem loweredPort_queues : (loweredPort q l r).queues = r.queues := by rw [loweredPort_eq]
@[simp] theorem loweredPort_transmitter : (loweredPort q l r).transmitter = r.transmitter := by
  rw [loweredPort_eq]
@[simp] theorem loweredPort_rotation : (loweredPort q l r).rotation = r.rotation := by
  rw [loweredPort_eq]
@[simp] theorem loweredPort_c2State : (loweredPort q l r).c2State = r.c2State := by rw [loweredPort_eq]
@[simp] theorem loweredPort_pauseEnd : (loweredPort q l r).pauseEnd = r.pauseEnd := by
  rw [loweredPort_eq]
@[simp] theorem loweredPort_storm : (loweredPort q l r).storm = r.storm := by rw [loweredPort_eq]
@[simp] theorem loweredPort_recoveryEnd : (loweredPort q l r).recoveryEnd = r.recoveryEnd := by
  rw [loweredPort_eq]
@[simp] theorem loweredPort_stormHold : (loweredPort q l r).stormHold = r.stormHold := by
  rw [loweredPort_eq]

end Fields

/-- Two falls of the count are one (R137: the test is the same after both). -/
theorem loweredPort_append (q : PauseSettings) (l l' : List QFrame) (r : Port) :
    loweredPort q l' (loweredPort q l r) = loweredPort q (l ++ l') r := by
  by_cases hl : l = []
  · subst hl; rfl
  by_cases hl' : l' = []
  · subst hl'; rw [List.append_nil, loweredPort_nil]
  have hcells : cellsOf (l ++ l') = cellsOf l + cellsOf l' := by simp [cellsOf]
  simp only [loweredPort, hl, hl', List.append_eq_nil_iff, false_and, if_false, hcells]
  exact Port.pauseOffTest_twice r q (cellsOf l) (cellsOf l')

theorem enteredAt_append (q : Nat) (l l' : List QFrame) :
    enteredAt q (l ++ l') = enteredAt q l ++ enteredAt q l' := List.filter_append ..

theorem enteredAt_ne_nil {q : Nat} {l : List QFrame} :
    enteredAt q l ≠ [] ↔ ∃ f ∈ l, f.cls = .c2 ∧ f.ingress.val = q := by
  simp [enteredAt, List.filter_eq_nil_iff]

/-- The storm timer's test touches nothing else (R143). -/
theorem stormSync_eq (s : State) (r : Port) : s.stormSync r = { r with storm := (s.stormSync r).storm } :=
  Port.stormSync_eq r _ _

section StormFields
variable (s : State) (r : Port)

@[simp] theorem stormSync_link : (s.stormSync r).link = r.link := by rw [stormSync_eq]
@[simp] theorem stormSync_lane : (s.stormSync r).lane = r.lane := by rw [stormSync_eq]
@[simp] theorem stormSync_debounceEnd : (s.stormSync r).debounceEnd = r.debounceEnd := by rw [stormSync_eq]
@[simp] theorem stormSync_holdDownEnd : (s.stormSync r).holdDownEnd = r.holdDownEnd := by rw [stormSync_eq]
@[simp] theorem stormSync_flapHistory : (s.stormSync r).flapHistory = r.flapHistory := by rw [stormSync_eq]
@[simp] theorem stormSync_losslessCount : (s.stormSync r).losslessCount = r.losslessCount := by
  rw [stormSync_eq]
@[simp] theorem stormSync_ingress : (s.stormSync r).ingress = r.ingress := by rw [stormSync_eq]
@[simp] theorem stormSync_renewal : (s.stormSync r).renewal = r.renewal := by rw [stormSync_eq]
@[simp] theorem stormSync_slot : (s.stormSync r).slot = r.slot := by rw [stormSync_eq]
@[simp] theorem stormSync_queues : (s.stormSync r).queues = r.queues := by rw [stormSync_eq]
@[simp] theorem stormSync_transmitter : (s.stormSync r).transmitter = r.transmitter := by rw [stormSync_eq]
@[simp] theorem stormSync_rotation : (s.stormSync r).rotation = r.rotation := by rw [stormSync_eq]
@[simp] theorem stormSync_c2State : (s.stormSync r).c2State = r.c2State := by rw [stormSync_eq]
@[simp] theorem stormSync_pauseEnd : (s.stormSync r).pauseEnd = r.pauseEnd := by rw [stormSync_eq]
@[simp] theorem stormSync_recoveryEnd : (s.stormSync r).recoveryEnd = r.recoveryEnd := by rw [stormSync_eq]
@[simp] theorem stormSync_stormHold : (s.stormSync r).stormHold = r.stormHold := by rw [stormSync_eq]

end StormFields

/-- R143: a timer that runs goes on unless its queue is no longer PAUSED with a frame. -/
theorem stormSync_storm_of_timed {s : State} {r : Port} {c : QState} {x : Option StormTimer}
    (hc : r.c2State = c) (hx : r.storm = x) (hrun : x.isSome = true → c = .paused)
    (hpaused : c = .paused → r.queues.c2 ≠ [] → x.isSome = true) :
    (s.stormSync r).storm = if r.queues.c2 = [] then none else x := by
  subst hc hx
  unfold State.stormSync Port.stormSync
  by_cases hq : r.queues.c2 = []
  · simp [hq]
  · by_cases hp : r.c2State = .paused
    · obtain ⟨y, hy⟩ := Option.isSome_iff_exists.mp (hpaused hp hq)
      simp [hq, hp, hy]
    · have hn : r.storm = none := by
        by_contra h
        exact hp (hrun (Option.isSome_iff_ne_none.mpr h))
      simp [hq, hp, hn]

/-! ### Released frames -/

section Release
variable (s : State)

/-- R133, R137: what released frames leave at each port. -/
theorem releaseFrames_port_eq (l : List QFrame) (q : Nat) :
    (l.foldl (fun s f => releaseFrame f s) s).port q
      = loweredPort (s.pauseOf q) (enteredAt q l) (s.port q) :=
  releaseFrames_port l s q

theorem releaseFrame_port_eq (f : QFrame) (q : Nat) :
    (releaseFrame f s).port q = loweredPort (s.pauseOf q) (enteredAt q [f]) (s.port q) :=
  releaseFrames_port_eq s [f] q

/-- R131: what a flush leaves in the emptied queue's port, before its frames are released. -/
def emptiedPort (c : Cls) (r : Port) : Port :=
  s.stormSync { r with
    queues := r.queues.set c []
    transmitter := if r.transmitter = .frame c then .idle else r.transmitter }

theorem flushQueue_port (p q : Nat) (c : Cls) :
    (flushQueue p c s).port q = loweredPort (s.pauseOf q) (enteredAt q (s.queue p c))
      (if q = p then emptiedPort s c (s.port p) else s.port q) := by
  unfold flushQueue
  rw [releaseFrames_port_eq, State.port_set]
  rfl

/-- R130: the frame that an abort removes. -/
def abortedFrames (r : Port) : List QFrame :=
  match r.transmitter with
  | .frame c => (r.queues.get c).take 1
  | .idle => []
  | .control _ => []

/-- R130: the port once its transmission is aborted, before the frame is released. -/
def abortedPort (r : Port) : Port :=
  match r.transmitter with
  | .frame c =>
    if r.queues.get c = [] then { r with transmitter := .idle }
    else s.stormSync { r with queues := r.queues.set c (r.queues.get c).tail, transmitter := .idle }
  | .idle => r
  | .control _ => { r with transmitter := .idle }

theorem idle_eta {r : Port} (h : r.transmitter = .idle) : { r with transmitter := .idle } = r := by
  rw [← h]

/-- R130: an abort removes the oldest frame of its queue and releases it, or just frees the transmitter. -/
theorem abortTransmission_cases (p : Nat) :
    (∃ c f rest, (s.port p).transmitter = .frame c ∧ s.queue p c = f :: rest
      ∧ abortTransmission p s = releaseFrame f (s.setPort p (abortedPort s (s.port p))))
    ∨ ((∀ c, (s.port p).transmitter = .frame c → s.queue p c = [])
      ∧ abortedFrames (s.port p) = []
      ∧ abortedPort s (s.port p) = { s.port p with transmitter := .idle }
      ∧ (abortTransmission p s = s.setPort p (abortedPort s (s.port p))
        ∨ (s.port p).transmitter = .idle ∧ abortTransmission p s = s)) := by
  unfold abortTransmission abortedPort abortedFrames State.queue
  dsimp only
  rcases ht : (s.port p).transmitter with _ | c | m
  · refine .inr ⟨(fun c h => nomatch h), rfl, (idle_eta ht).symm, .inr ⟨rfl, rfl⟩⟩
  · rcases hq : (s.port p).queues.get c with _ | ⟨f, rest⟩
    · refine .inr ⟨fun d h => ?_, by simp [hq], by simp [hq], .inl (by simp [hq])⟩
      cases h; exact hq
    · exact .inl ⟨c, f, rest, rfl, hq, by simp [hq]⟩
  · exact .inr ⟨(fun c h => nomatch h), rfl, rfl, .inl rfl⟩

theorem abortTransmission_port (p q : Nat) :
    (abortTransmission p s).port q
      = loweredPort (s.pauseOf q) (enteredAt q (abortedFrames (s.port p)))
          (if q = p then abortedPort s (s.port p) else s.port q) := by
  rcases abortTransmission_cases s p with ⟨c, f, rest, ht, hq, h⟩ | ⟨-, hf, hp, h⟩
  · have hframes : abortedFrames (s.port p) = [f] := by
      have hq' : (s.port p).queues.get c = f :: rest := hq
      simp [abortedFrames, ht, hq']
    rw [h, releaseFrame_port_eq, State.port_set, hframes]
    rfl
  · rw [hf]
    change _ = if q = p then abortedPort s (s.port p) else s.port q
    rcases h with h | ⟨hidle, h⟩
    · rw [h, State.port_set]
    · rw [h, hp, idle_eta hidle]
      split
      · next hqp => rw [hqp]
      · rfl

/-- The link leaves UP: the ingress side is cleared and the transmission aborted (R139, R155). -/
def leftUpPort (l : LinkState) (r : Port) : Port :=
  abortedPort s { r with link := l }.ingressCleared

theorem leaveUp_port (p q : Nat) (l : LinkState) :
    (leaveUp p l s).port q
      = loweredPort (s.pauseOf q) (enteredAt q (abortedFrames (s.port p)))
          (if q = p then leftUpPort s l (s.port p) else s.port q) := by
  unfold leaveUp
  rw [abortTransmission_port, State.port_set, State.port_set, if_pos rfl]
  show loweredPort (s.pauseOf q) (enteredAt q (abortedFrames (s.port p))) _ = _
  congr 1
  split <;> rfl

/-- Every frame of a port, in the order a flush of all its queues releases them. -/
def portFrames (r : Port) : List QFrame :=
  r.queues.c0 ++ r.queues.c1 ++ r.queues.c2 ++ r.queues.c3

/-- A transmitter whose frame, if it sends one, has been removed. -/
def withoutFrame : Transmitter → Transmitter
  | .idle => .idle
  | .frame _ => .idle
  | .control m => .control m

/-- The four flushes of the down effects (R157 step 1). -/
def flushAll (p : Nat) (s : State) : State :=
  flushQueue p .c3 (flushQueue p .c2 (flushQueue p .c1 (flushQueue p .c0 s)))

theorem flushQueue_pauseOf (p q : Nat) (c : Cls) : (flushQueue p c s).pauseOf q = s.pauseOf q := by
  rw [flushQueue_eq]; rfl

theorem flushQueue_queue {p q : Nat} {c d : Cls} (h : q ≠ p ∨ d ≠ c) :
    (flushQueue p c s).queue q d = s.queue q d := by
  simp only [State.queue, flushQueue_queues]
  split
  · next hq =>
    subst hq
    rw [PerClass.get_set, if_neg (h.resolve_left fun hn => hn rfl)]
  · rfl

theorem flushAll_port_other {p q : Nat} (h : q ≠ p) :
    (flushAll p s).port q = loweredPort (s.pauseOf q) (enteredAt q (portFrames (s.port p))) (s.port q) := by
  unfold flushAll
  simp only [flushQueue_port, flushQueue_pauseOf, if_neg h, loweredPort_append,
    flushQueue_queue _ (.inr (by decide : Cls.c1 ≠ .c0)), flushQueue_queue _ (.inr (by decide : Cls.c2 ≠ .c0)),
    flushQueue_queue _ (.inr (by decide : Cls.c2 ≠ .c1)), flushQueue_queue _ (.inr (by decide : Cls.c3 ≠ .c0)),
    flushQueue_queue _ (.inr (by decide : Cls.c3 ≠ .c1)), flushQueue_queue _ (.inr (by decide : Cls.c3 ≠ .c2)),
    portFrames, enteredAt_append]
  rfl

/-- What the four flushes leave at the port itself, but for its ingress side and its storm timer. -/
theorem flushAll_port_same (p : Nat) :
    (flushAll p s).port p = { s.port p with
      losslessCount := (s.port p).losslessCount - cellsOf (enteredAt p (portFrames (s.port p)))
      queues := ⟨[], [], [], []⟩
      transmitter := withoutFrame (s.port p).transmitter
      ingress := ((flushAll p s).port p).ingress, slot := ((flushAll p s).port p).slot
      renewal := ((flushAll p s).port p).renewal, storm := ((flushAll p s).port p).storm } := by
  have hcells : cellsOf (enteredAt p (portFrames (s.port p)))
      = cellsOf (enteredAt p (s.queue p .c0)) + cellsOf (enteredAt p (s.queue p .c1))
        + cellsOf (enteredAt p (s.queue p .c2)) + cellsOf (enteredAt p (s.queue p .c3)) := by
    simp [portFrames, enteredAt_append, cellsOf, State.queue, PerClass.get, Nat.add_assoc]
  have hcount : ((flushAll p s).port p).losslessCount
      = (s.port p).losslessCount - cellsOf (enteredAt p (portFrames (s.port p))) := by
    unfold flushAll
    simp only [flushQueue_port, loweredPort_losslessCount, if_true, emptiedPort, stormSync_losslessCount,
      flushQueue_queue _ (.inr (by decide : Cls.c1 ≠ .c0)), flushQueue_queue _ (.inr (by decide : Cls.c2 ≠ .c0)),
      flushQueue_queue _ (.inr (by decide : Cls.c2 ≠ .c1)), flushQueue_queue _ (.inr (by decide : Cls.c3 ≠ .c0)),
      flushQueue_queue _ (.inr (by decide : Cls.c3 ≠ .c1)), flushQueue_queue _ (.inr (by decide : Cls.c3 ≠ .c2)),
      hcells, Nat.sub_sub, Nat.add_assoc]
  have htrans : ((flushAll p s).port p).transmitter
      = withoutFrame (s.port p).transmitter := by
    unfold flushAll
    simp only [flushQueue_transmitter, true_and]
    rcases (s.port p).transmitter with _ | c | m
    · simp [withoutFrame]
    · cases c <;> simp [withoutFrame]
    · simp [withoutFrame]
  have hqueues : ((flushAll p s).port p).queues = ⟨[], [], [], []⟩ := by
    unfold flushAll
    simp only [flushQueue_queues, if_true]
    rfl
  have hrest : (flushAll p s).port p = { s.port p with
      losslessCount := ((flushAll p s).port p).losslessCount, queues := ((flushAll p s).port p).queues
      transmitter := ((flushAll p s).port p).transmitter, ingress := ((flushAll p s).port p).ingress
      slot := ((flushAll p s).port p).slot, renewal := ((flushAll p s).port p).renewal
      storm := ((flushAll p s).port p).storm } := by
    have hone (c : Cls) (u : State) : (flushQueue p c u).port p = { u.port p with
        losslessCount := ((flushQueue p c u).port p).losslessCount
        queues := ((flushQueue p c u).port p).queues
        transmitter := ((flushQueue p c u).port p).transmitter
        ingress := ((flushQueue p c u).port p).ingress
        slot := ((flushQueue p c u).port p).slot, renewal := ((flushQueue p c u).port p).renewal
        storm := ((flushQueue p c u).port p).storm } := by
      rw [flushQueue_port, if_pos rfl, loweredPort_eq, emptiedPort, stormSync_eq]
    unfold flushAll
    rw [hone .c3, hone .c2, hone .c1, hone .c0]
  rw [hcount, htrans, hqueues] at hrest
  exact hrest

theorem downEffects_port (p q : Nat) :
    (downEffects p s).port q
      = if q = p then ((flushAll p s).port p).quieted else (flushAll p s).port q := by
  unfold downEffects
  dsimp only
  split <;> simp only [postFlush_port, pend_port, State.port_set] <;> rfl

theorem downEffects_port_other {p q : Nat} (h : q ≠ p) :
    (downEffects p s).port q
      = loweredPort (s.pauseOf q) (enteredAt q (portFrames (s.port p))) (s.port q) := by
  rw [downEffects_port, if_neg h, flushAll_port_other s h]

/-- R157: what the down effects leave at the port itself. -/
theorem downEffects_port_same (p : Nat) :
    (downEffects p s).port p = { s.port p with
      losslessCount := (s.port p).losslessCount - cellsOf (enteredAt p (portFrames (s.port p)))
      queues := ⟨[], [], [], []⟩
      transmitter := withoutFrame (s.port p).transmitter
      ingress := .flowing, slot := none, renewal := none, c2State := .ready, pauseEnd := none
      storm := none } := by
  rw [downEffects_port, if_pos rfl, flushAll_port_same]
  rfl

end Release

end Sys2Proof.Proofs.Ports

/-! What a step can do to the records that the laws speak of, said once. `SameRecords` is a step that leaves all of
them; `Effect` lists the others, each with the conditions under which the model's command has it; every step is
an effect between two such leavings (`step_effect`). The laws of Safety are then kept effect by effect. -/

namespace Sys2Proof.Proofs.Effects

open Sys2Proof Sys2Proof.Machine Sys2Proof.Safety Sys2Proof.Proofs.Outcomes Sys2Proof.Proofs.Ports

/-! ### The records the laws speak of -/

/-- The records other than the ports, and the registers that laws read, are those of `s`. -/
structure SameBut (s t : State) : Prop where
  timebase : t.timebase = s.timebase
  nextAging : t.nextAging = s.nextAging
  freeCount : t.freeCount = s.freeCount
  pauseSettings : t.pauseSettings = s.pauseSettings
  purges : t.jobs.tenants = s.jobs.tenants
  pass : t.pass = s.pass
  tenant : ∀ n, t.tenant n = s.tenant n
  profile : ∀ n, t.profile n = s.profile n
  station : ∀ i, t.station i = s.station i

/-- Every record that laws read is that of `s`. -/
structure SameRecords (s t : State) : Prop extends SameBut s t where
  port : ∀ p, t.port p = s.port p

/-- Only port `p` differs, and holds `r`. -/
structure PortSet (s t : State) (p : Nat) (r : Port) : Prop extends SameBut s t where
  port : ∀ q, t.port q = if q = p then r else s.port q

theorem SameBut.trans {s t u : State} (h : SameBut s t) (h' : SameBut t u) : SameBut s u where
  timebase := h'.timebase.trans h.timebase
  nextAging := h'.nextAging.trans h.nextAging
  freeCount := h'.freeCount.trans h.freeCount
  pauseSettings := h'.pauseSettings.trans h.pauseSettings
  purges := h'.purges.trans h.purges
  pass := h'.pass.trans h.pass
  tenant n := (h'.tenant n).trans (h.tenant n)
  profile n := (h'.profile n).trans (h.profile n)
  station i := (h'.station i).trans (h.station i)

theorem SameRecords.trans {s t u : State} (h : SameRecords s t) (h' : SameRecords t u) :
    SameRecords s u :=
  { h.toSameBut.trans h'.toSameBut with port := fun p => (h'.port p).trans (h.port p) }

theorem SameRecords.refl (s : State) : SameRecords s s :=
  ⟨⟨rfl, rfl, rfl, rfl, rfl, rfl, fun _ => rfl, fun _ => rfl, fun _ => rfl⟩, fun _ => rfl⟩

/-- A state whose tables and registers are those of `s`; each is seen by unfolding where it is so. -/
theorem SameRecords.of_fields {s t : State} (timebase : t.timebase = s.timebase := by rfl)
    (nextAging : t.nextAging = s.nextAging := by rfl) (freeCount : t.freeCount = s.freeCount := by rfl)
    (pauseSettings : t.pauseSettings = s.pauseSettings := by rfl)
    (purges : t.jobs.tenants = s.jobs.tenants := by rfl) (pass : t.pass = s.pass := by rfl)
    (tenants : t.tenants = s.tenants := by rfl) (profiles : t.profiles = s.profiles := by rfl)
    (stations : t.stations = s.stations := by rfl) (ports : t.ports = s.ports := by rfl) :
    SameRecords s t :=
  ⟨⟨timebase, nextAging, freeCount, pauseSettings, purges, pass,
    fun _ => congrArg (tableGet _ · _) tenants, fun _ => congrArg (tableGet _ · _) profiles,
    fun _ => congrArg (tableGet _ · _) stations⟩, fun _ => congrArg (tableGet _ · _) ports⟩

theorem sameRecords_drawn (s : State) (b : Bool) : SameRecords s (s.drawn b) := by
  obtain ⟨d, h⟩ := drawn_eq s b
  rw [h]
  exact .of_fields

theorem sameRecords_pend (k : NoticeKind) (x : Nat) (s : State) : SameRecords s (pend k x s) := by
  rw [pend_eq]
  exact .of_fields

theorem portSet_setPort (s : State) (p : Nat) (r : Port) : PortSet s (s.setPort p r) p r :=
  ⟨⟨rfl, rfl, rfl, rfl, rfl, rfl, fun _ => rfl, fun _ => rfl, fun _ => rfl⟩,
    fun q => State.port_set s p q r⟩

theorem PortSet.port_same {s t : State} {p : Nat} {r : Port} (h : PortSet s t p r) : t.port p = r := by
  rw [h.port, if_pos rfl]

/-- A second write of the same port takes the place of the first. -/
theorem PortSet.setPort {s t : State} {p : Nat} {r : Port} (h : PortSet s t p r) (r' : Port) :
    PortSet s (t.setPort p r') p r' :=
  { h.toSameBut.trans (portSet_setPort t p r').toSameBut with
    port := fun q => by
      rw [State.port_set, h.port]
      split <;> rfl }

theorem PortSet.then {s t u : State} {p : Nat} {r : Port} (h : PortSet s t p r) (h' : SameRecords t u) :
    PortSet s u p r :=
  { h.toSameBut.trans h'.toSameBut with port := fun q => (h'.port q).trans (h.port q) }

/-! ### The events of one port -/

/-- The events that write one port and leave its queues and its count: `now` is the timebase, `q` the port's
pause settings and `budget` the storm budget. -/
inductive PortEvent (now : Nat) (q : PauseSettings) (budget : Nat) (r : Port) : Port → Prop
  | lane (l : LaneStatus) : PortEvent now q budget r { r with lane := l }
  | entersUp (l : LaneStatus) (h : r.link = .suspect ∨ r.link = .proving) :
      PortEvent now q budget r
        (Port.pauseOnTest { r with lane := l, link := .up, debounceEnd := none, holdDownEnd := none } q now)
  | entersProving (l : LaneStatus) (e : Nat) (h : r.link = .down ∨ r.link = .adminDown) :
      PortEvent now q budget r { r with lane := l, link := .proving, holdDownEnd := some e }
  | idles (l : LinkState) (h : r.link = .down ∨ r.link = .adminDown) (hl : l = .down ∨ l = .adminDown) :
      PortEvent now q budget r { r with link := l }
  | pauseReceived (d : Nat) : PortEvent now q budget r ((r.pauseReceived d now).stormSync budget now)
  | pauseExpires (h : r.c2State = .paused) :
      PortEvent now q budget r (Port.stormSync { r with c2State := .ready, pauseEnd := none } budget now)
  | recovers : PortEvent now q budget r r.recovered
  | sendsControl (x : Control) (h : r.controlDue = true) :
      PortEvent now q budget r { r with transmitter := .control x, slot := none }
  | endsControl (x : Control) (h : r.transmitter = .control x) :
      PortEvent now q budget r { r with transmitter := .idle }
  | renews (h : r.ingress = .pausing) : PortEvent now q budget r (r.placePause q now)

/-- R151, R153, R161: the port as the down effects find it, on its way from SUSPECT or PROVING. -/
structure Falls (now : Nat) (r r' : Port) : Prop where
  wasHeld : r.link = .suspect ∨ r.link = .proving
  link : r'.link = .down ∨ r'.link = .adminDown
  ends : r'.debounceEnd = none ∧ r'.holdDownEnd = none
  flaps : r'.flapHistory = r.flapHistory ∨ ∃ w, r'.flapHistory = flapAppend r.flapHistory now w
  transmitter : r'.transmitter = r.transmitter
  queues : r'.queues = r.queues
  losslessCount : r'.losslessCount = r.losslessCount

/-- The ways a request changes a tenant record that keeps its counts (R8 to R14). -/
inductive TenantEvent (r : Tenant) : Tenant → Prop
  | opened (profile : Nat) (ports : BitVec 32) (path : Option (Fin 64)) (limit allowance ceiling : Nat)
      (h : r.state = .vacant) (ha : allowance ≤ Config.max40) (hc : ceiling ≤ Config.max40) :
      TenantEvent r { r with
        state := derivedState allowance 0 ceiling, profile := profile, portSet := ports
        defaultPath := path, stationLimit := limit, allowance := allowance, overage := 0
        ceiling := ceiling, saturated := false
        meters := ⟨zeroMeters, zeroMeters, zeroMeters, zeroMeters⟩ }
  | amended (m : Message) (path : Option (Fin 64)) (h : r.state.inContract = true)
      (hl : r.stationCount ≤ num m 5) (hc : num2 m 6 ≤ Config.max40) :
      TenantEvent r (r.amended m path).rederive
  | toppedUp (amount : Nat) (h : r.state ≠ .vacant) : TenantEvent r (r.toppedUp amount)
  | collected (h : r.state ≠ .vacant) : TenantEvent r r.collected
  | suspended (h : r.state.openForTraffic = true) : TenantEvent r { r with state := .suspended }
  | resumed (h : r.state = .suspended) : TenantEvent r { r with state := r.derived }

/-! ### The effects -/

/-- What a step does to the records that laws read. -/
inductive Effect (s : State) : State → Prop
  | none : Effect s s
  | powerOn (l : List Instr) : Effect s { State.reset with pending := l }
  | time (h : s.eventDue = false) : Effect s { s with timebase := s.timebase + 1 }
  | aging (h : s.nextAging ≤ s.timebase) : Effect s { s with nextAging := 10000000 + s.nextAging }
  | port (p : Nat) {r : Port} {t : State} (hp : p < 40)
      (h : PortEvent s.timebase (s.pauseOf p) s.linkSettings.stormBudget (s.port p) r)
      (ht : PortSet s t p r) : Effect s t
  | join (c : Copy) (p : Nat) (hp : p < 40) (h : s.admits c p = true) : Effect s (admitCopy c p s)
  | start (p : Nat) (c : Cls) (i : Fin 4) (hp : p < 40) (hdue : (s.port p).startDue = true)
      (h : (s.port p).startChoice = some (c, i)) : Effect s (startFrom p c i s)
  | complete (p : Nat) (c : Cls) (f : QFrame) (rest : List QFrame) (hp : p < 40)
      (ht : (s.port p).transmitter = .frame c) (hq : (s.port p).queues.get c = f :: rest) :
      Effect s (completeFrame f (s.setPort p (s.stormSync
        { s.port p with queues := (s.port p).queues.set c rest, transmitter := .idle })))
  | suspect (p : Nat) (e : Nat) {u : State} (hp : p < 40) (h : (s.port p).link = .up)
      (hu : PortSet s u p { s.port p with lane := .lost, debounceEnd := some e }) :
      Effect s (leaveUp p .suspect u)
  | fall (p : Nat) {r : Port} {u : State} (hp : p < 40) (h : Falls s.timebase (s.port p) r)
      (hu : PortSet s u p r) : Effect s (downEffects p u)
  | adminFall (p : Nat) (hp : p < 40) (h : (s.port p).link = .up) :
      Effect s (downEffects p (leaveUp p .adminDown s))
  | storm (p : Nat) (hp : p < 40) (h : (s.port p).stormDue s.timebase = true) :
      Effect s (stormExpiry p s)
  | pauseWrite (k : PortKind) (q : PauseSettings) (h : q.pauseOff < q.pauseOn) :
      Effect s ((portsOfKind k).foldl retestPort { s with pauseSettings := s.pauseSettings.set k q })
  | profile (n : Nat) (r : Profile) (h : profileInRange r) : Effect s (s.setProfile n r)
  | tenant (t : Nat) {r : Tenant} (h : TenantEvent (s.tenant t) r) : Effect s (s.setTenant t r)
  | retire (t : Nat) (h : (s.tenant t).state.inContract = true) :
      Effect s ((postPurge t s).setTenant t { s.tenant t with state := .draining })
  | learn (t : Nat) (a : Addr) (q : Fin 32) (ht : t < 1024)
      (hopen : (s.tenant t).state.openForTraffic = true) (ha : isGroup a = false) :
      Effect s (learn t a q s)
  | insert (t : Nat) (a : Addr) (target : Target) (ht : t < 1024) (ha : isGroup a = false)
      (hv : (s.tenant t).state ≠ .vacant) (hd : (s.tenant t).state ≠ .draining) :
      Effect s (insertEntry t a target s).state
  | remove (t : Nat) (a : Addr) (i : Nat) (e : Entry) (h : s.findEntry t a = some (i, e)) :
      Effect s (removeEntry i e s)
  | passStart (h : s.pass = Option.none) :
      Effect s { s with
        jobs := noJobs, pass := some { carried := s.jobs, phase := .stations, position := 0 } }
  | stationVisit (q : Pass) (h : s.pass = some q) (hq : q.phase = .stations) :
      Effect s { visitStation q.carried q.position s with pass := some q.afterStation }
  | pinVisit (q : Pass) (h : s.pass = some q) (hq : q.phase = .pins) :
      Effect s { s with pass := some { q with position := q.position + 1 } }
  | passEnd (q : Pass) (h : s.pass = some q) (hq : q.finished = true) : Effect s (endPass q.carried s)

/-- `t` is an effect of `s` but for records that no law reads. -/
def Does (s t : State) : Prop := ∃ u v, SameRecords s u ∧ Effect u v ∧ SameRecords v t

theorem Effect.does {s t : State} (h : Effect s t) : Does s t := ⟨s, t, .refl s, h, .refl t⟩

theorem SameRecords.does {s t : State} (h : SameRecords s t) : Does s t := ⟨s, s, .refl s, .none, h⟩

theorem Does.before {s u t : State} (h : SameRecords s u) (h' : Does u t) : Does s t := by
  obtain ⟨v, w, hv, heff, hw⟩ := h'
  exact ⟨v, w, h.trans hv, heff, hw⟩

theorem Does.then {s u t : State} (h : Does s u) (h' : SameRecords u t) : Does s t := by
  obtain ⟨v, w, hv, heff, hw⟩ := h
  exact ⟨v, w, hv, heff, hw.trans h'⟩

end Sys2Proof.Proofs.Effects

namespace Sys2Proof.Proofs.Effects

open Sys2Proof Sys2Proof.Machine Sys2Proof.Safety Sys2Proof.Proofs.Outcomes Sys2Proof.Proofs.Ports

/-! ### The events of the blocks -/

section Events
variable (s : State)

theorem does_portIf {b : Prop} [Decidable b] {p : Nat} {r : Port} (hp : p < 40)
    (h : b → PortEvent s.timebase (s.pauseOf p) s.linkSettings.stormBudget (s.port p) r) :
    Does s (if b then s.setPort p r else s) := by
  split
  · next hb => exact (Effect.port p hp (h hb) (portSet_setPort s p r)).does
  · exact (SameRecords.refl s).does

/-- R44: the tenant number of a tag has ten bits. -/
theorem readFrame_tenant_lt (bytes : List Byte) : (readFrame bytes).tenant < 1024 := by
  have h14 : frameByte bytes 14 < 256 := (bytes.getD 14 0#8).isLt
  have h15 : frameByte bytes 15 < 256 := (bytes.getD 15 0#8).isLt
  show 4 * frameByte bytes 14 + frameByte bytes 15 / 64 < 1024
  omega

theorem does_intake {p : Fin 40} {bytes : List Byte} (h : s.accepts p bytes = true) :
    Does s (intake p bytes s) := by
  have hopen : (s.tenant (readFrame bytes).tenant).state.openForTraffic = true := by
    simp only [State.accepts, Bool.and_eq_true] at h
    exact h.1.2
  have hlearned : Does s (learnSource p (readFrame bytes) s) := by
    unfold learnSource
    split
    · split
      · exact (SameRecords.refl s).does
      · next hg =>
        exact (Effect.learn _ _ _ (readFrame_tenant_lt bytes) hopen (Bool.eq_false_iff.mpr hg)).does
    · exact (SameRecords.refl s).does
  refine hlearned.then ?_
  unfold intake State.handOn
  dsimp only
  split
  · exact .refl _
  · exact .of_fields

theorem does_pauseMessageReceived {p : Nat} (hp : p < 40) (good : Bool) (bytes : List Byte) :
    Does s (pauseMessageReceived p good bytes s) := by
  unfold pauseMessageReceived
  split
  · dsimp only
    have h0 := sameRecords_drawn s (decide (bytes.length < 18))
    obtain ⟨d, hd⟩ := drawn_eq s (decide (bytes.length < 18))
    split
    · refine .before h0 (Effect.port p hp ?_ (portSet_setPort _ p _)).does
      exact .pauseReceived _
    · exact h0.does
  · exact (SameRecords.refl s).does

theorem does_controlMessageSend {p : Nat} (hp : p < 40) : Does s (controlMessageSend p s) := by
  unfold controlMessageSend
  dsimp only
  split
  · next hdue =>
    split
    · exact (Effect.port p hp (.sendsControl _ hdue) (portSet_setPort s p _)).does
    · exact (SameRecords.refl s).does
  · exact (SameRecords.refl s).does

theorem does_controlMessageEnd {p : Nat} (hp : p < 40) : Does s (controlMessageEnd p s) := by
  unfold controlMessageEnd
  dsimp only
  split
  · next hm => exact (Effect.port p hp (.endsControl _ hm) (portSet_setPort s p _)).does
  · exact (SameRecords.refl s).does
  · exact (SameRecords.refl s).does

theorem does_transmissionStart {p : Nat} (hp : p < 40) : Does s (transmissionStart p s) := by
  unfold transmissionStart
  split
  · next hdue =>
    split
    · next hch => exact (Effect.start p _ _ hp hdue hch).does
    · exact (SameRecords.refl s).does
  · exact (SameRecords.refl s).does

theorem does_transmissionCompletion {p : Nat} (hp : p < 40) : Does s (transmissionCompletion p s) := by
  unfold transmissionCompletion
  dsimp only
  split
  · exact (SameRecords.refl s).does
  · exact (SameRecords.refl s).does
  · next ht =>
    split
    · exact (SameRecords.refl s).does
    · next hq => exact (Effect.complete p _ _ _ hp ht hq).does

theorem does_stormExpiry {p : Nat} (hp : p < 40) : Does s (stormExpiry p s) := by
  by_cases h : (s.port p).stormDue s.timebase = true
  · exact (Effect.storm p hp h).does
  · rw [stormExpiry, if_neg h]
    exact (SameRecords.refl s).does

/-- A port that enters DOWN from SUSPECT or PROVING. -/
theorem does_enterDown {u : State} {p : Nat} (hp : p < 40) {l : LaneStatus}
    (hu : PortSet s u p { s.port p with lane := l })
    (h : (s.port p).link = .suspect ∨ (s.port p).link = .proving) : Does s (enterDown p u) := by
  unfold enterDown
  have hport := hu.port_same
  refine (Effect.fall p hp ?_ (hu.setPort _)).does
  rw [hport, hu.timebase]
  exact
    { wasHeld := h, link := .inl rfl, ends := ⟨rfl, rfl⟩, flaps := .inr ⟨_, rfl⟩
      transmitter := rfl, queues := rfl, losslessCount := rfl }

theorem portSet_self (p : Nat) : PortSet s s p (s.port p) :=
  { (SameRecords.refl s).toSameBut with
    port := fun q => by
      split
      · next h => rw [h]
      · rfl }

theorem does_laneLoss {p : Nat} (hp : p < 40) : Does s (laneLoss p s) := by
  unfold laneLoss
  split
  · have hu := portSet_setPort s p { s.port p with lane := .lost }
    have hlink : ((s.setPort p { s.port p with lane := .lost }).port p).link = (s.port p).link := by
      rw [hu.port_same]
    have hlane : Does s (s.setPort p { s.port p with lane := .lost }) :=
      (Effect.port p hp (.lane .lost) hu).does
    unfold laneLossEffect
    split
    · next h =>
      rw [hlink] at h
      have hset (r : Port) (hr : r = { s.port p with lane := .lost }) (e : Nat) :
          PortSet s ((s.setPort p { s.port p with lane := .lost }).setPort p { r with debounceEnd := some e })
            p { s.port p with lane := .lost, debounceEnd := some e } := by
        subst hr
        exact hu.setPort _
      exact (Effect.suspect p _ hp h (hset _ hu.port_same _)).does
    · next h =>
      rw [hlink] at h
      exact does_enterDown s hp hu (.inr h)
    all_goals exact hlane
  · exact (SameRecords.refl s).does

theorem does_laneLock {p : Nat} (hp : p < 40) : Does s (laneLock p s) := by
  unfold laneLock
  split
  · have hu := portSet_setPort s p { s.port p with lane := .locked }
    have hlink : ((s.setPort p { s.port p with lane := .locked }).port p).link = (s.port p).link := by
      rw [hu.port_same]
    have hlane : Does s (s.setPort p { s.port p with lane := .locked }) :=
      (Effect.port p hp (.lane .locked) hu).does
    unfold laneLockEffect
    split
    · next h =>
      rw [hlink] at h
      refine (Effect.port p hp ?_ (hu.setPort _)).does
      rw [hu.port_same]
      exact .entersUp .locked (.inl h)
    · next h =>
      rw [hlink] at h
      refine (Effect.port p hp ?_ (hu.setPort _)).does
      rw [hu.port_same]
      exact .entersProving .locked _ (.inl h)
    all_goals exact hlane
  · exact (SameRecords.refl s).does

theorem does_debounceExpiry {p : Nat} (hp : p < 40) : Does s (debounceExpiry p s) := by
  unfold debounceExpiry
  split
  · next hdue =>
    simp only [Port.debounceDue, Bool.and_eq_true, beq_iff_eq] at hdue
    exact does_enterDown s (l := (s.port p).lane) hp (portSet_self s p) (.inl hdue.1)
  · exact (SameRecords.refl s).does

theorem does_holdDownExpiry {p : Nat} (hp : p < 40) : Does s (holdDownExpiry p s) := by
  unfold holdDownExpiry
  split
  · next hdue =>
    simp only [Port.holdDownDue, Bool.and_eq_true, beq_iff_eq] at hdue
    exact (Effect.port p hp (.entersUp (s.port p).lane (.inr hdue.1)) (portSet_setPort s p _)).does.then
      (sameRecords_pend _ _ _)
  · exact (SameRecords.refl s).does

theorem sameRecords_dropNext (k : Nat) : SameRecords s (s.dropNext k) := .of_fields

theorem sameRecords_afterWalk (k : Nat) (n : Fin 64) (w : Walk) : SameRecords s (afterWalk k n w s) := by
  unfold afterWalk
  split
  · exact .of_fields
  · exact .of_fields
  · exact (sameRecords_dropNext s k).trans (sameRecords_pend _ _ _)

theorem sameRecords_resolveCopy (k : Nat) (c : Copy) (n : Fin 64) :
    SameRecords s (resolveCopy k c n s) := by
  have hfault (r : Pin) : SameRecords s (resolveFault k c n r s) := by
    refine .trans ?_ (sameRecords_afterWalk _ k n _)
    split <;> exact .of_fields
  unfold resolveCopy
  dsimp only
  split
  · unfold resolveMatched
    split
    · exact hfault _
    · split
      · exact hfault _
      · split
        · exact .of_fields
        · split <;> exact .of_fields
  · split
    · refine .trans ?_ (sameRecords_afterWalk _ k n _)
      split <;> exact .of_fields
    · exact .trans .of_fields (sameRecords_afterWalk _ k n _)

theorem does_admission (k : Nat) {t : State} (h : execAdmission k s = .next t) : Does s t := by
  cases h
  split
  · next c _ =>
    split
    · next p _ =>
      have h0 := sameRecords_dropNext s k
      split
      · next hadm => exact .before h0 (Effect.join c p p.isLt (s := s.dropNext k) hadm).does
      · exact h0.does
    · exact (SameRecords.refl s).does
  · exact (SameRecords.refl s).does

theorem does_stationVisit {t : State} (h : execStationVisit s = .next t) : Does s t := by
  cases h
  split
  · next q hq =>
    split
    · next hph => exact (Effect.stationVisit q hq hph).does
    · exact (SameRecords.refl s).does
  · exact (SameRecords.refl s).does

theorem does_pinVisit {t : State} (h : execPinVisit s = .next t) : Does s t := by
  cases h
  split
  · next q hq =>
    split
    · exact (SameRecords.refl s).does
    · next hph =>
      split
      · refine (Effect.pinVisit q hq hph).does.then ?_
        unfold visitPin
        split <;> exact .of_fields
      · exact (SameRecords.refl s).does
  · exact (SameRecords.refl s).does

theorem does_passEnd {t : State} (h : execPassEnd s = .next t) : Does s t := by
  cases h
  split
  · next q hq =>
    split
    · next hf => exact (Effect.passEnd q hq hf).does
    · exact (SameRecords.refl s).does
  · exact (SameRecords.refl s).does

end Events

/-! ### The requests -/

section Requests
variable (m : Message) (s : State)

theorem does_needTenant (ok : Bool) (effect : Nat → Tenant → Answer)
    (h : ok = true → (s.tenant (num m 1)).state ≠ .vacant →
      Does s (effect (num m 1) (s.tenant (num m 1))).state) :
    Does s (needTenant m ok s effect).state := by
  unfold needTenant
  split
  · exact (SameRecords.refl s).does
  · next hok =>
    split
    · exact (SameRecords.refl s).does
    · next hv => exact h (by simpa using fun hf => hok (.inr hf)) hv

theorem inContract_of_ne {x : TenantState} (hv : x ≠ .vacant) (hd : x ≠ .draining) :
    x.inContract = true := by
  cases x <;> first | rfl | exact absurd rfl hv | exact absurd rfl hd

theorem does_tenantOpenEffect : Does s (tenantOpenEffect m s).state := by
  unfold tenantOpenEffect
  split
  · exact (SameRecords.refl s).does
  · split
    · exact (SameRecords.refl s).does
    · next hr =>
      split
      · exact (SameRecords.refl s).does
      · next hv =>
        exact (Effect.tenant (num m 1) (.opened _ _ _ _ _ _ (not_not.mp hv)
          (by omega) (by omega))).does

theorem does_tenantAmendEffect : Does s (tenantAmendEffect m s).state := by
  unfold tenantAmendEffect
  split
  · exact (SameRecords.refl s).does
  · refine does_needTenant m s _ _ fun hok hv => ?_
    simp only [Bool.and_eq_true, decide_eq_true_eq] at hok
    split
    · exact (SameRecords.refl s).does
    · next hd =>
      split
      · exact (SameRecords.refl s).does
      · next hl =>
        exact (Effect.tenant (num m 1) (.amended m _ (inContract_of_ne hv hd)
          (Nat.not_lt.mp hl) hok.2)).does

theorem does_stationInsertEffect : Does s (stationInsertEffect m s).state := by
  have h0 := sameRecords_drawn s (isWideAddress m 2)
  unfold stationInsertEffect
  dsimp only
  split
  · exact h0.does
  · split
    · exact h0.does
    · next hr =>
      split
      · exact h0.does
      · next hv =>
        split
        · exact h0.does
        · next hd =>
          exact .before h0 (Effect.insert _ _ _ (by omega)
            (Bool.eq_false_iff.mpr fun hg => hr (.inr hg)) hv hd).does

theorem does_stationRemoveEffect : Does s (stationRemoveEffect m s).state := by
  have h0 := sameRecords_drawn s (isWideAddress m 2)
  unfold stationRemoveEffect
  dsimp only
  split
  · exact h0.does
  · split
    · next hf => exact .before h0 (Effect.remove _ _ _ _ hf).does
    · exact h0.does

theorem field16_le (d i : Nat) : field16 d m i ≤ 65535 := by
  unfold field16 isWide
  split
  · have := (Config.wideField d i (word m i)).isLt
    omega
  · next h => simpa using h

/-- R21: what PROFILE_WRITE stores lies in R19's ranges. -/
theorem profileInRange_profileStored (d : Nat) : profileInRange (profileStored d m) := by
  refine ⟨fun c => ?_, ?_, Nat.min_le_left _ _, fun c => ?_, rfl⟩
  · cases c <;> exact field16_le m _ _
  · show clampMultiplier _ ∈ _
    unfold clampMultiplier
    repeat' split
    all_goals decide
  · have h (c target : Cls) : (clampTarget c target).number ≤ c.number := by
      unfold clampTarget
      split
      · next hc => rw [hc]
      · split
        · exact Nat.le_refl _
        · next hn => exact Nat.not_lt.mp hn
    have hstored : ((profileStored d m).demotion.get c)
        = clampTarget c ((demotionOf (word m 10)).get c) := by cases c <;> rfl
    rw [hstored]
    exact h c _

theorem clampPauseOn_pos (n : Nat) : 0 < clampPauseOn n := by
  unfold clampPauseOn
  split <;> omega

/-- R148: pause-off lies below pause-on as stored. -/
theorem pauseStored_off_lt_on (on off quantum : Nat) :
    (pauseStored on off quantum).pauseOff < (pauseStored on off quantum).pauseOn := by
  have := clampPauseOn_pos on
  show (if clampPauseOn on ≤ off then clampPauseOn on / 2 else off) < clampPauseOn on
  split <;> omega

theorem does_pauseWriteEffect : Does s (pauseWriteEffect m s).state := by
  unfold pauseWriteEffect
  split
  · exact (SameRecords.refl s).does
  · next k _ =>
    have h0 := sameRecords_drawn s (isWide m 4)
    have h := (Effect.pauseWrite (s := s.drawn (isWide m 4)) k _
      (pauseStored_off_lt_on (num m 2) (num m 3) (field16 s.draws m 4))).does
    rw [h0.pauseSettings] at h
    exact .before h0 h

theorem does_adminDownHeld {p : Nat} (hp : p < 40)
    (h : (s.port p).link = .suspect ∨ (s.port p).link = .proving) : Does s (adminDownHeld p s) := by
  have hset := portSet_setPort s p
    { s.port p with link := .adminDown, debounceEnd := none, holdDownEnd := none }
  have hfall : Falls s.timebase (s.port p)
      { s.port p with link := .adminDown, debounceEnd := none, holdDownEnd := none } :=
    { wasHeld := h, link := .inr rfl, ends := ⟨rfl, rfl⟩, flaps := .inl rfl, transmitter := rfl
      queues := rfl, losslessCount := rfl }
  exact (Effect.fall p hp hfall hset).does

theorem does_adminDown {p : Nat} (hp : p < 40) : Does s (adminDown p s) := by
  unfold adminDown
  split
  · next h => exact (Effect.adminFall p hp h).does
  · next h => exact does_adminDownHeld s hp (.inl h)
  · next h => exact does_adminDownHeld s hp (.inr h)
  · next h =>
    have hset := portSet_setPort s p { s.port p with link := .adminDown }
    exact (Effect.port p hp (.idles .adminDown (.inl h) (.inr rfl)) hset).does
  · exact (SameRecords.refl s).does

theorem does_adminUp {p : Nat} (hp : p < 40) : Does s (adminUp p s) := by
  unfold adminUp
  split
  · next h =>
    split
    · exact (Effect.port p hp (.entersProving (s.port p).lane _ (.inr h)) (portSet_setPort s p _)).does
    · exact (Effect.port p hp (.idles .down (.inr h) (.inl rfl)) (portSet_setPort s p _)).does
  all_goals exact (SameRecords.refl s).does

theorem does_linkAdminDownEffect : Does s (linkAdminDownEffect m s).state := by
  unfold linkAdminDownEffect
  split
  · exact (SameRecords.refl s).does
  · next hr => exact does_adminDown s (by omega)

theorem does_linkAdminUpEffect : Does s (linkAdminUpEffect m s).state := by
  unfold linkAdminUpEffect
  split
  · exact (SameRecords.refl s).does
  · next hr => exact does_adminUp s (by omega)

/-- A request that only reads, or writes what no law reads. -/
theorem does_of_eq {a : Answer} (h : a.state = s) : Does s a.state := h ▸ (SameRecords.refl s).does

theorem does_rowEffect {c : Instr} (hc : c ∈ requestRows) : Does s (rowEffect c m s).state := by
  cases c
  case unknownKind => exact does_of_eq s rfl
  case tenantOpen => exact does_tenantOpenEffect m s
  case tenantAmend => exact does_tenantAmendEffect m s
  case tenantTopup =>
    refine does_needTenant m s _ _ fun _ hv => ?_
    split
    · exact (SameRecords.refl s).does
    · exact (Effect.tenant _ (.toppedUp _ hv)).does
  case tenantCollect => exact does_needTenant m s _ _ fun _ hv => (Effect.tenant _ (.collected hv)).does
  case tenantRead => exact does_needTenant m s _ _ fun _ _ => (SameRecords.refl s).does
  case tenantSuspend =>
    refine does_needTenant m s _ _ fun _ _ => ?_
    split
    · next h => exact (Effect.tenant _ (.suspended h)).does
    · exact (SameRecords.refl s).does
  case tenantResume =>
    refine does_needTenant m s _ _ fun _ _ => ?_
    split
    · next h => exact (Effect.tenant _ (.resumed h)).does
    · exact (SameRecords.refl s).does
  case tenantRetire =>
    refine does_needTenant m s _ _ fun _ hv => ?_
    split
    · exact (SameRecords.refl s).does
    · next hd => exact (Effect.retire _ (inContract_of_ne hv hd)).does
  case profileWrite =>
    show Does s (profileWriteEffect m s).state
    unfold profileWriteEffect
    split
    · exact (SameRecords.refl s).does
    · exact .before (sameRecords_drawn s _) (Effect.profile _ _ (profileInRange_profileStored m _)).does
  case profileRead => exact does_of_eq s (by show (profileReadEffect m s).state = s; unfold profileReadEffect; split <;> rfl)
  case clockSet =>
    show Does s (clockSetEffect m s).state
    unfold clockSetEffect
    split
    · exact (SameRecords.refl s).does
    · exact SameRecords.does .of_fields
  case clockRead => exact does_of_eq s rfl
  case stationInsert => exact does_stationInsertEffect m s
  case stationFind =>
    have h0 := (sameRecords_drawn s (isWideAddress m 2)).does
    show Does s (stationFindEffect m s).state
    unfold stationFindEffect
    dsimp only
    split
    · exact h0
    · split <;> exact h0
  case stationRemove => exact does_stationRemoveEffect m s
  case stationAging => exact SameRecords.does .of_fields
  case pathsetWrite =>
    show Does s (pathsetWriteEffect m s).state
    unfold pathsetWriteEffect
    split
    · exact (SameRecords.refl s).does
    · exact SameRecords.does (.trans (sameRecords_drawn s _) .of_fields)
  case pathsetRead => exact does_of_eq s (by show (pathsetReadEffect m s).state = s; unfold pathsetReadEffect; split <;> rfl)
  case pinRead => exact does_of_eq s (by show (pinReadEffect m s).state = s; unfold pinReadEffect; split <;> rfl)
  case policyWrite =>
    show Does s (policyWriteEffect m s).state
    unfold policyWriteEffect
    split
    · exact SameRecords.does .of_fields
    · exact (SameRecords.refl s).does
  case queueRead =>
    refine does_of_eq s ?_
    show (queueReadEffect m s).state = s
    unfold queueReadEffect
    split
    · rfl
    · split <;> rfl
  case pauseWrite => exact does_pauseWriteEffect m s
  case pauseRead => exact does_of_eq s (by show (pauseReadEffect m s).state = s; unfold pauseReadEffect; split <;> rfl)
  case linkAdminDown => exact does_linkAdminDownEffect m s
  case linkAdminUp => exact does_linkAdminUpEffect m s
  case linkTiming => exact SameRecords.does .of_fields
  case linkRead => exact does_of_eq s (by show (linkReadEffect m s).state = s; unfold linkReadEffect; split <;> rfl)
  case sweepRead => exact does_of_eq s (by show (sweepReadEffect m s).state = s; unfold sweepReadEffect; split <;> rfl)
  case noticeFetch =>
    obtain ⟨d, l, h⟩ := noticeFetchEffect_eq m s
    show Does s (noticeFetchEffect m s).state
    rw [h]
    exact SameRecords.does .of_fields
  case noticeMask =>
    show Does s (noticeMaskEffect m s).state
    rw [noticeMaskEffect_state]
    exact SameRecords.does .of_fields
  all_goals simp [requestRows] at hc

end Requests

/-! ### Every command and every step -/

theorem does_of_atPort {p : Nat} {f : State → State} {s t : State} (hf : p < 40 → Does s (f s))
    (h : atPort p f s = .next t) : Does s t := by
  unfold atPort at h
  split at h
  · next hp => exact Host.Outcome.next.inj h ▸ hf hp
  · cases h

theorem exec_does {c : Instr} {s t : State} (h : exec c s = .next t) : Does s t := by
  by_cases hr : c ∈ requestRows
  · rcases exec_row_outcome hr h with rfl | ⟨e, -, -, rfl⟩
    · exact (SameRecords.refl _).does
    · exact (does_rowEffect e.message s hr).then .of_fields
  cases c
  case powerOn => cases h; exact (Effect.powerOn _).does
  case controlReset => cases h; exact SameRecords.does .of_fields
  case frameTaken p good bytes =>
    change execFrameTaken p good bytes s = _ at h
    unfold execFrameTaken at h
    split at h
    · cases h
      split
      · next hd => exact does_intake s (Bool.and_eq_true_iff.mp hd).2
      · exact (SameRecords.refl s).does
    · cases h
  case pauseMessageReceived => exact does_of_atPort (fun hp => does_pauseMessageReceived s hp _ _) h
  case resolutionEvent =>
    cases h
    refine SameRecords.does ?_
    split
    · split
      · exact sameRecords_resolveCopy s _ _ _
      all_goals exact .refl s
    · exact .refl s
  case admission k => exact does_admission s k h
  case transmissionStart => exact does_of_atPort (does_transmissionStart s) h
  case transmissionCompletion => exact does_of_atPort (does_transmissionCompletion s) h
  case controlMessageSend => exact does_of_atPort (does_controlMessageSend s) h
  case controlMessageEnd => exact does_of_atPort (does_controlMessageEnd s) h
  case renewalExpiry =>
    refine does_of_atPort (fun hp => does_portIf s hp fun hdue => ?_) h
    simp only [Port.renewalDue, Bool.and_eq_true, beq_iff_eq] at hdue
    exact .renews hdue.1
  case pauseExpiry =>
    refine does_of_atPort (fun hp => does_portIf s hp fun hdue => ?_) h
    simp only [Port.pauseDue, Bool.and_eq_true, beq_iff_eq] at hdue
    exact .pauseExpires hdue.1
  case stormExpiry => exact does_of_atPort (does_stormExpiry s) h
  case recoveryExpiry => exact does_of_atPort (fun hp => does_portIf s hp fun _ => .recovers) h
  case laneLoss => exact does_of_atPort (does_laneLoss s) h
  case laneLock => exact does_of_atPort (does_laneLock s) h
  case debounceExpiry => exact does_of_atPort (does_debounceExpiry s) h
  case holdDownExpiry => exact does_of_atPort (does_holdDownExpiry s) h
  case agingPosting =>
    cases h
    split
    · next hdue => exact (Effect.aging hdue).does.then .of_fields
    · exact (SameRecords.refl s).does
  case clockAdvance =>
    cases h
    split
    · exact SameRecords.does .of_fields
    · exact (SameRecords.refl s).does
  case passStart =>
    cases h
    split
    · next hdue =>
      simp only [State.passDue, Bool.and_eq_true, Option.isNone_iff_eq_none] at hdue
      exact (Effect.passStart hdue.1).does
    · exact (SameRecords.refl s).does
  case stationVisit => exact does_stationVisit s h
  case pinVisit => exact does_pinVisit s h
  case passEnd => exact does_passEnd s h
  case postingAreaWrite i w =>
    change execPostingAreaWrite i w s = _ at h
    unfold execPostingAreaWrite at h
    split at h
    · cases h; exact SameRecords.does .of_fields
    · cases h
  case post w =>
    cases h
    unfold postMessage
    split
    · exact SameRecords.does .of_fields
    · exact SameRecords.does (.trans .of_fields (sameRecords_pend _ _ _))
  case release w =>
    change execRelease w s = _ at h
    unfold execRelease at h
    split at h
    · cases h; exact SameRecords.does .of_fields
    · cases h
  case overrunFlagClear w =>
    change execOverrunFlagClear w s = _ at h
    unfold execOverrunFlagClear at h
    split at h
    · cases h; exact SameRecords.does .of_fields
    · cases h
  case requestTake =>
    cases h
    split
    · exact SameRecords.does .of_fields
    · exact (SameRecords.refl s).does
  all_goals exact absurd (by simp [requestRows]) hr

/-- Every step is one effect, but for records that no law reads. -/
theorem step_does {s t : State} (h : step s = .next t) : Does s t := by
  rcases step_cases h with rfl | ⟨hdue, rfl⟩ | ⟨c, rest, -, hexec⟩
  · exact (SameRecords.refl _).does
  · exact (Effect.time hdue).does
  · exact .before .of_fields (exec_does hexec)

/-- A law that reads only the records, and that every effect keeps, is kept by every step. -/
theorem law_of_effects {P : State → Prop} (hsame : ∀ {s t}, SameRecords s t → P s → P t)
    (heff : ∀ {s t}, Effect s t → P s → P t) {s t : State} (hs : P s) (h : step s = .next t) : P t := by
  obtain ⟨u, v, hu, hv, ht⟩ := step_does h
  exact hsame ht (heff hv (hsame hu hs))

end Sys2Proof.Proofs.Effects

/-! The station table: what a search of a bucket finds, and the four ways the table changes. -/

namespace Sys2Proof.Proofs.Stations

open Sys2Proof Sys2Proof.Machine Sys2Proof.Safety Sys2Proof.Proofs.Effects

/-! ### A bucket (R63) -/

theorem mem_bucketSlots {b i : Nat} : i ∈ bucketSlots b ↔ i / 4 = b := by
  simp only [bucketSlots, List.mem_cons, List.not_mem_nil, or_false]
  omega

/-- 00_scope.md "The station bucket": a bucket number is below 4,096. -/
theorem stationBucket_lt (t : Nat) (a : Addr) : stationBucket t a < 4096 := Nat.mod_lt _ (by decide)

theorem bucketSlot_lt {i t : Nat} {a : Addr} (h : i / 4 = stationBucket t a) : i < 16384 := by
  have := stationBucket_lt t a
  omega

theorem holdsKey_some {t : Nat} {a : Addr} {e : Entry} :
    holdsKey t a (some e) = true ↔ e.tenant = t ∧ e.address = a := by
  simp [holdsKey]

section Search
variable {s : State} {t : Nat} {a : Addr}

theorem findSlot_some {i : Nat} (h : s.findSlot t a = some i) :
    i / 4 = stationBucket t a ∧ ∃ e, s.station i = some e ∧ e.tenant = t ∧ e.address = a := by
  have hkey := List.find?_some h
  refine ⟨mem_bucketSlots.mp (List.mem_of_find?_eq_some h), ?_⟩
  rcases he : s.station i with _ | e
  · rw [he] at hkey
    cases hkey
  · rw [he] at hkey
    exact ⟨e, rfl, holdsKey_some.mp hkey⟩

/-- R63: the entry found stands in its key's bucket and bears the key. -/
theorem findEntry_some {i : Nat} {e : Entry} (h : s.findEntry t a = some (i, e)) :
    i / 4 = stationBucket t a ∧ s.station i = some e ∧ e.tenant = t ∧ e.address = a := by
  unfold State.findEntry at h
  split at h
  · next j hj =>
    obtain ⟨hb, e', he', hkey⟩ := findSlot_some hj
    rw [he'] at h
    cases h
    exact ⟨hb, he', hkey⟩
  · cases h

/-- R63: no entry found means no slot of the bucket bears the key. -/
theorem findEntry_none (h : s.findEntry t a = none) {i : Nat} {e : Entry}
    (hb : i / 4 = stationBucket t a) (he : s.station i = some e) : ¬(e.tenant = t ∧ e.address = a) := by
  intro hkey
  unfold State.findEntry at h
  split at h
  · next j hj =>
    obtain ⟨-, e', he', -⟩ := findSlot_some hj
    rw [he'] at h
    cases h
  · next hnone =>
    have := List.find?_eq_none.mp hnone i (mem_bucketSlots.mpr hb)
    rw [he] at this
    exact this (holdsKey_some.mpr hkey)

/-- R63: the free way is the lowest of the bucket. -/
theorem freeSlot_some {i : Nat} (h : s.freeSlot t a = some i) :
    i / 4 = stationBucket t a ∧ s.station i = none
      ∧ ∀ j, j < i → j / 4 = stationBucket t a → s.station j ≠ none := by
  have hmem := mem_bucketSlots.mp (List.mem_of_find?_eq_some h)
  have hfree := List.find?_some h
  refine ⟨hmem, Option.isNone_iff_eq_none.mp hfree, fun j hj hb hnone => ?_⟩
  obtain ⟨-, pre, post, hsplit, hpre⟩ := List.find?_eq_some_iff_append.mp h
  have hj' : j ∈ pre ++ i :: post := hsplit ▸ mem_bucketSlots.mpr hb
  have hsorted : (bucketSlots (stationBucket t a)).Pairwise (· < ·) := by
    simp only [bucketSlots, List.pairwise_cons, List.mem_cons, List.not_mem_nil, or_false]
    refine ⟨fun x hx => ?_, fun x hx => ?_, fun x hx => ?_, fun x hx => hx.elim, .nil⟩ <;> omega
  rw [hsplit, List.pairwise_append, List.pairwise_cons] at hsorted
  rcases List.mem_append.mp hj' with hp | hp
  · have := hpre j hp
    simp [hnone] at this
  · rcases List.mem_cons.mp hp with rfl | hp
    · exact absurd hj (Nat.lt_irrefl _)
    · exact absurd hj (Nat.lt_asymm (hsorted.2.1.1 j hp))

theorem freeSlot_none (h : s.freeSlot t a = none) {i : Nat} (hb : i / 4 = stationBucket t a) :
    s.station i ≠ none := by
  intro hnone
  have := List.find?_eq_none.mp h i (mem_bucketSlots.mpr hb)
  simp [hnone] at this

end Search

/-! ### The changes of the table -/

/-- What learning or STATION_INSERT does to the table: a slot's entry is rewritten for the same key, or a new key
takes a free slot of its bucket. -/
inductive EntryWritten (s : State) : State → Prop
  | none : EntryWritten s s
  | rewrite (i : Nat) (e e' : Entry) (h : s.station i = some e)
      (hk : e'.tenant = e.tenant ∧ e'.address = e.address)
      (hl : e'.kind = .learned → ∃ p, e'.target = .downlink p) :
      EntryWritten s (s.setStation i (some e'))
  | join (i : Nat) (e : Entry) (hb : i / 4 = stationBucket e.tenant e.address)
      (hfree : s.station i = Option.none) (hnew : s.findEntry e.tenant e.address = Option.none)
      (ht : e.tenant < 1024) (ha : isGroup e.address = false)
      (hl : e.kind = .learned → ∃ p, e.target = .downlink p)
      (hroom : (s.tenant e.tenant).stationCount < (s.tenant e.tenant).stationLimit)
      (hv : (s.tenant e.tenant).state ≠ .vacant) (hd : (s.tenant e.tenant).state ≠ .draining) :
      EntryWritten s ((s.setStation i (some e)).setTenant e.tenant
        { s.tenant e.tenant with stationCount := (s.tenant e.tenant).stationCount + 1 })

/-- What learning, a request or a sweep does to the table: an entry is written, or one leaves. -/
inductive StationEvent (s : State) : State → Prop
  | written {t : State} (h : EntryWritten s t) : StationEvent s t
  | leave (i : Nat) (e : Entry) (h : s.station i = some e) : StationEvent s (removeEntry i e s)

/-- R68, R69: learning. -/
theorem entryWritten_learn {s : State} {t : Nat} {a : Addr} (q : Fin 32) (ht : t < 1024)
    (hopen : (s.tenant t).state.openForTraffic = true) (ha : isGroup a = false) :
    EntryWritten s (learn t a q s) := by
  unfold learn
  split
  · next hnew =>
    split
    · exact .none
    · unfold learnNew
      split
      · exact .none
      · next i hi =>
        obtain ⟨hb, hfree, -⟩ := freeSlot_some hi
        split
        · next hroom =>
          have hv : (s.tenant t).state ≠ .vacant := fun h => by simp [h, TenantState.openForTraffic] at hopen
          have hd : (s.tenant t).state ≠ .draining := fun h => by
            simp [h, TenantState.openForTraffic] at hopen
          exact .join i
            { tenant := t, address := a, kind := .learned, target := .downlink q, lastSeen := s.second }
            hb hfree hnew ht ha (fun _ => ⟨q, rfl⟩) hroom hv hd
        · exact .none
  · next i e hf =>
    obtain ⟨-, he, -⟩ := findEntry_some hf
    split
    · exact .none
    · split
      · next htarget => exact .rewrite i e _ he ⟨rfl, rfl⟩ fun _ => ⟨q, htarget⟩
      · split
        · exact .none
        · exact .rewrite i e _ he ⟨rfl, rfl⟩ fun _ => ⟨q, rfl⟩

/-- R71, R72: STATION_INSERT. -/
theorem entryWritten_insert {s : State} {t : Nat} {a : Addr} (target : Target) (ht : t < 1024)
    (ha : isGroup a = false) (hv : (s.tenant t).state ≠ .vacant) (hd : (s.tenant t).state ≠ .draining) :
    EntryWritten s (insertEntry t a target s).state := by
  unfold insertEntry
  dsimp only
  split
  · next i e hf =>
    obtain ⟨-, he, htenant, haddress⟩ := findEntry_some hf
    exact .rewrite i e _ he ⟨htenant.symm, haddress.symm⟩ fun h => nomatch h
  · next hnew =>
    split
    · exact .none
    · next i hi =>
      obtain ⟨hb, hfree, -⟩ := freeSlot_some hi
      split
      · exact .none
      · next hroom =>
        exact .join i (insertedEntry t a target s.second) hb hfree hnew ht ha (fun h => nomatch h)
          (Nat.not_le.mp hroom) hv hd

theorem stationEvent_learn {s : State} {t : Nat} {a : Addr} (q : Fin 32) (ht : t < 1024)
    (hopen : (s.tenant t).state.openForTraffic = true) (ha : isGroup a = false) :
    StationEvent s (learn t a q s) := .written (entryWritten_learn q ht hopen ha)

theorem stationEvent_insert {s : State} {t : Nat} {a : Addr} (target : Target) (ht : t < 1024)
    (ha : isGroup a = false) (hv : (s.tenant t).state ≠ .vacant) (hd : (s.tenant t).state ≠ .draining) :
    StationEvent s (insertEntry t a target s).state := .written (entryWritten_insert target ht ha hv hd)

/-- R170: a visit of a station slot. -/
theorem stationEvent_visit (s : State) (j : Jobs) (i : Nat) : StationEvent s (visitStation j i s) := by
  unfold visitStation
  split
  · next e he =>
    split
    · exact .leave i e he
    · exact .written .none
  · exact .written .none

/-- A change of the table touches only the table and station counts. -/
theorem StationEvent.eq {s t : State} (h : StationEvent s t) :
    t = { s with stations := t.stations, tenants := t.tenants } := by
  cases h with
  | written h => cases h <;> rfl
  | leave i e _ => rfl

theorem EntryWritten.tenant {s t : State} (h : EntryWritten s t) (u : Nat) :
    t.tenant u = { s.tenant u with stationCount := (t.tenant u).stationCount } := by
  cases h
  case none => rfl
  case rewrite => rfl
  case join e _ _ _ _ _ _ _ _ _ =>
    rw [State.tenant_set]
    split
    · next h => rw [h]
    · rfl

theorem StationEvent.tenant {s t : State} (h : StationEvent s t) (u : Nat) :
    t.tenant u = { s.tenant u with stationCount := (t.tenant u).stationCount } := by
  cases h with
  | written h => exact h.tenant u
  | leave i e _ =>
    rw [removeEntry, State.tenant_set]
    split
    · next h => rw [h]
    · rfl

end Sys2Proof.Proofs.Stations

/-! The shared buffer: the frames that come and go. A movement (`Moves`) says which frames joined the queues and
which left, and what that did to the free count, the in-buffer counts and the lossless counts; every step is a
chain of movements, so the laws of R119, R4 and R133 are kept by every step. -/

namespace Sys2Proof.Proofs.Buffer

open Sys2Proof Sys2Proof.Machine Sys2Proof.Safety Sys2Proof.Proofs.Outcomes Sys2Proof.Proofs.Ports
  Sys2Proof.Proofs.Effects Sys2Proof.Proofs.Stations

/-! ### Weights of frames -/

/-- The sum of a weight over a list of frames. -/
def weigh (w : QFrame → Nat) (l : List QFrame) : Nat := (l.map w).sum

@[simp] theorem weigh_nil (w : QFrame → Nat) : weigh w [] = 0 := rfl

@[simp] theorem weigh_cons (w : QFrame → Nat) (f : QFrame) (l : List QFrame) :
    weigh w (f :: l) = w f + weigh w l := by simp [weigh]

@[simp] theorem weigh_append (w : QFrame → Nat) (l l' : List QFrame) :
    weigh w (l ++ l') = weigh w l + weigh w l' := by simp [weigh]

theorem weigh_filter (w : QFrame → Nat) (b : QFrame → Bool) (l : List QFrame) :
    weigh w (l.filter b) = weigh (fun f => if b f then w f else 0) l := by
  induction l with
  | nil => rfl
  | cons f rest ih =>
    cases hb : b f <;> simp [hb, ih]

/-- A weight that a start's mark (R129) leaves as it is. -/
def markBlind (w : QFrame → Nat) : Prop := ∀ f, w f.marked = w f

/-- The weight of the frames held in the 160 queues. -/
def held (w : QFrame → Nat) (s : State) : Nat :=
  ((List.range 40).map fun p => weigh w (portFrames (s.port p))).sum

theorem portFrames_queues {r r' : Port} (h : r.queues = r'.queues) : portFrames r = portFrames r' := by
  unfold portFrames
  rw [h]

/-- A sum in which one term changes. -/
theorem sum_range_of_one {f g : Nat → Nat} {p n a b : Nat} (hp : p < n) (h : g p + a = f p + b)
    (hother : ∀ q, q ≠ p → g q = f q) :
    ((List.range n).map g).sum + a = ((List.range n).map f).sum + b := by
  have hcongr (m : Nat) (hm : m ≤ p) : ((List.range m).map g).sum = ((List.range m).map f).sum :=
    congrArg List.sum (List.map_congr_left fun q hq => hother q (by have := List.mem_range.mp hq; omega))
  induction n with
  | zero => omega
  | succ n ih =>
    simp only [List.range_succ, List.map_append, List.sum_append, List.map_cons, List.map_nil,
      List.sum_cons, List.sum_nil]
    by_cases hn : p = n
    · subst hn
      have := hcongr p (Nat.le_refl p)
      omega
    · have := ih (by omega)
      have := hother n (fun h => hn h.symm)
      omega

/-! ### Movements -/

/-- The frames `came` have joined the queues and the frames `gone` have left them between `s` and `t`. -/
structure Moves (s t : State) (came gone : List QFrame) : Prop where
  held : ∀ w, markBlind w → held w t + weigh w gone = held w s + weigh w came
  classes : (∀ p, classesMatch (s.port p)) → ∀ p, classesMatch (t.port p)
  freeCount : t.freeCount + cellsOf came = s.freeCount + cellsOf gone
  inBuffer : ∀ u, (t.tenant u).inBuffer = (s.tenant u).inBuffer + framesOf u came - framesOf u gone
  lossless : ∀ q, (t.port q).losslessCount
    = (s.port q).losslessCount + cellsOf (enteredAt q came) - cellsOf (enteredAt q gone)

section Movements
variable {s t u : State} {came gone : List QFrame}

/-- A movement is seen in the ports and the two counts alone. -/
theorem Moves.of_reads (h : Moves s t came gone) (hport : ∀ q, u.port q = t.port q)
    (hfree : u.freeCount = t.freeCount) (htenant : ∀ x, (u.tenant x).inBuffer = (t.tenant x).inBuffer) :
    Moves s u came gone where
  held w hw := by
    have := h.held w hw
    simp only [Buffer.held, hport] at this ⊢
    exact this
  classes hs p := hport p ▸ h.classes hs p
  freeCount := hfree ▸ h.freeCount
  inBuffer x := (htenant x).trans (h.inBuffer x)
  lossless q := hport q ▸ h.lossless q

/-- No frame moves where the queues and the counts stay. -/
theorem moves_of_same (hqueues : ∀ q, (t.port q).queues = (s.port q).queues)
    (hlossless : ∀ q, (t.port q).losslessCount = (s.port q).losslessCount)
    (hfree : t.freeCount = s.freeCount) (htenant : ∀ x, (t.tenant x).inBuffer = (s.tenant x).inBuffer) :
    Moves s t [] [] where
  held w _ := by
    unfold Buffer.held
    simp only [portFrames_queues (hqueues _)]
  classes hs p := by
    unfold classesMatch
    rw [hqueues]
    exact hs p
  freeCount := by rw [hfree]
  inBuffer x := htenant x
  lossless q := hlossless q

theorem moves_of_ports (hport : ∀ q, t.port q = s.port q) (hfree : t.freeCount = s.freeCount)
    (htenant : ∀ x, (t.tenant x).inBuffer = (s.tenant x).inBuffer) : Moves s t [] [] :=
  moves_of_same (fun q => by rw [hport]) (fun q => by rw [hport]) hfree htenant

/-- A write of one port that leaves its queues and its count. -/
theorem moves_of_portSet {p : Nat} {r : Port} (h : PortSet s t p r)
    (hq : r.queues = (s.port p).queues) (hl : r.losslessCount = (s.port p).losslessCount) :
    Moves s t [] [] := by
  refine moves_of_same (fun q => ?_) (fun q => ?_) h.freeCount fun x => by rw [h.tenant]
  · rw [h.port]
    split
    · next hqp => rw [hq, hqp]
    · rfl
  · rw [h.port]
    split
    · next hqp => rw [hl, hqp]
    · rfl

/-- Frames join or leave one port's queues. -/
theorem moves_of_onePort {p : Nat} (hp : p < 40)
    (hother : ∀ q, q ≠ p → (t.port q).queues = (s.port q).queues)
    (hw : ∀ w, markBlind w →
      weigh w (portFrames (t.port p)) + weigh w gone = weigh w (portFrames (s.port p)) + weigh w came)
    (hclasses : classesMatch (s.port p) → classesMatch (t.port p))
    (hfree : t.freeCount + cellsOf came = s.freeCount + cellsOf gone)
    (htenant : ∀ x, (t.tenant x).inBuffer = (s.tenant x).inBuffer + framesOf x came - framesOf x gone)
    (hlossless : ∀ q, (t.port q).losslessCount
      = (s.port q).losslessCount + cellsOf (enteredAt q came) - cellsOf (enteredAt q gone)) :
    Moves s t came gone where
  held w hblind := by
    refine sum_range_of_one hp (hw w hblind) fun q hq => ?_
    rw [portFrames_queues (hother q hq)]
  classes hs q := by
    by_cases hq : q = p
    · rw [hq]; exact hclasses (hs p)
    · unfold classesMatch
      rw [hother q hq]
      exact hs q
  freeCount := hfree
  inBuffer := htenant
  lossless := hlossless

/-- Frames of one port that leave its queues uncharged (R130, R131). -/
theorem moves_of_release {p : Nat} {r : Port} (hp : p < 40)
    (hl : r.losslessCount = (s.port p).losslessCount)
    (hw : ∀ w, markBlind w → weigh w (portFrames r) + weigh w gone = weigh w (portFrames (s.port p)))
    (hclasses : classesMatch (s.port p) → classesMatch r) :
    Moves s (gone.foldl (fun s f => releaseFrame f s) (s.setPort p r)) [] gone := by
  have hqueues (q : Nat) := (releaseFrames_queues gone (s.setPort p r) q).1
  have hset (q : Nat) := State.port_set s p q r
  refine moves_of_onePort hp (fun q hq => ?_) (fun w hblind => ?_) (fun hs => ?_) ?_ (fun x => ?_)
    (fun q => ?_)
  · rw [hqueues, hset, if_neg hq]
  · rw [portFrames_queues (hqueues p), hset, if_pos rfl]
    exact hw w hblind
  · unfold classesMatch
    rw [hqueues, hset, if_pos rfl]
    exact hclasses hs
  · rw [releaseFrames_freeCount]
    rfl
  · rw [releaseFrames_inBuffer]
    rfl
  · rw [releaseFrames_port_eq, loweredPort_losslessCount, hset]
    split
    · next h => rw [hl, h]; rfl
    · rfl

end Movements

/-! ### The frames of a port by their queues -/

theorem weigh_portFrames_set (w : QFrame → Nat) {r r' : Port} {c : Cls} {l : List QFrame}
    (h : r'.queues = r.queues.set c l) :
    weigh w (portFrames r') + weigh w (r.queues.get c) = weigh w (portFrames r) + weigh w l := by
  unfold portFrames
  rw [h]
  cases c <;> simp [PerClass.set, PerClass.get] <;> omega

theorem classesMatch_set {r r' : Port} {c : Cls} {l : List QFrame} (h : classesMatch r)
    (hset : r'.queues = r.queues.set c l) (hl : ∀ f ∈ l, f.cls = c) : classesMatch r' := by
  intro d f hf
  rw [hset, PerClass.get_set] at hf
  split at hf
  · next hd => rw [hd]; exact hl f hf
  · exact h d f hf

/-! ### The movements of the operations -/

section Operations
variable (s : State)

theorem moves_flushQueue {p : Nat} (hp : p < 40) (c : Cls) :
    Moves s (flushQueue p c s) [] (s.queue p c) := by
  refine moves_of_release hp (stormSync_losslessCount s _) (fun w _ => ?_) fun hs => ?_
  · exact weigh_portFrames_set w (r := s.port p) (c := c) (l := []) (stormSync_queues s _)
  · exact classesMatch_set hs (stormSync_queues s _) fun f hf => nomatch hf

theorem classesMatch_tail {r : Port} {c : Cls} {f : QFrame} {rest : List QFrame} (h : classesMatch r)
    (hq : r.queues.get c = f :: rest) : ∀ g ∈ rest, g.cls = c := fun g hg =>
  h c g (hq ▸ List.mem_cons_of_mem f hg)

/-- R130: the oldest frame of a queue leaves it. -/
theorem moves_takeOldest {p : Nat} (hp : p < 40) {c : Cls} {f : QFrame} {rest : List QFrame}
    (hq : (s.port p).queues.get c = f :: rest) :
    Moves s (releaseFrame f (s.setPort p (s.stormSync
      { s.port p with queues := (s.port p).queues.set c rest, transmitter := .idle }))) [] [f] := by
  have hqueues := stormSync_queues s
    { s.port p with queues := (s.port p).queues.set c rest, transmitter := .idle }
  refine moves_of_release (gone := [f]) hp (stormSync_losslessCount s _) (fun w _ => ?_) fun hs => ?_
  · have hset (r : Port) (hr : r.queues = (s.port p).queues.set c rest) :
        weigh w (portFrames r) + weigh w [f] = weigh w (portFrames (s.port p)) := by
      have := weigh_portFrames_set w hr
      rw [hq, weigh_cons] at this
      rw [weigh_cons, weigh_nil]
      omega
    exact hset _ hqueues
  · exact classesMatch_set hs hqueues (classesMatch_tail hs hq)

theorem moves_abortTransmission {p : Nat} (hp : p < 40) :
    ∃ gone, Moves s (abortTransmission p s) [] gone := by
  rcases abortTransmission_cases s p with ⟨c, f, rest, ht, hq, h⟩ | ⟨-, -, hport, h⟩
  · have hq' : (s.port p).queues.get c = f :: rest := hq
    refine ⟨[f], ?_⟩
    rw [h]
    simp only [abortedPort, ht, hq', List.tail_cons, if_neg (List.cons_ne_nil f rest)]
    exact moves_takeOldest s hp hq'
  · refine ⟨[], ?_⟩
    rcases h with h | ⟨-, h⟩
    · rw [h, hport]
      exact moves_of_portSet (portSet_setPort s p _) rfl rfl
    · rw [h]
      exact moves_of_ports (fun _ => rfl) rfl fun _ => rfl

/-- R24: the charge check changes only the tenant's record and the notices. -/
theorem chargeCheck_eq (f : QFrame) : chargeCheck f s = { s with
    tenants := (chargeCheck f s).tenants, notices := (chargeCheck f s).notices
    interruptsSent := (chargeCheck f s).interruptsSent } := by
  have hpend (b : Bool) (k : NoticeKind) (x : Nat) (u : State) :
      pendIf b k x u = { u with
        notices := (pendIf b k x u).notices, interruptsSent := (pendIf b k x u).interruptsSent } := by
    unfold pendIf
    split
    · rw [pend_eq]
    · rfl
  unfold chargeCheck
  split
  · unfold chargeFrame
    dsimp only
    rw [hpend _ .tenantOverage, hpend _ .tenantThrottled, hpend _ .meterSaturated]
    rfl
  · rfl

theorem rederive_eq (r : Tenant) : r.rederive = { r with state := r.rederive.state } := by
  unfold Tenant.rederive
  split <;> rfl

theorem chargeFrame_tenant (x : Nat) (c : Cls) (len u : Nat) :
    (chargeFrame x c len s).tenant u = if u = x then
        (chargeRecord (s.tenant x) (chargeProduct (s.profile (s.tenant x).profile) s.clock c len) c len).record
      else s.tenant u := by
  have hpend (b : Bool) (k : NoticeKind) (v : State) : (pendIf b k x v).tenant u = v.tenant u := by
    unfold pendIf
    split
    · rw [pend_tenant]
    · rfl
  unfold chargeFrame
  dsimp only
  rw [hpend, hpend, hpend, State.tenant_set]

theorem chargeCheck_inBuffer (f : QFrame) (u : Nat) :
    ((chargeCheck f s).tenant u).inBuffer = (s.tenant u).inBuffer := by
  unfold chargeCheck
  split
  · rw [chargeFrame_tenant]
    split
    · next h => rw [chargeRecord, rederive_eq, h]
    · rfl
  · rfl

/-- R130: a completion moves frames and counts as a release does; it charges besides. -/
theorem completeFrame_reads (f : QFrame) :
    (∀ q, (completeFrame f s).port q = (releaseFrame f s).port q)
      ∧ (completeFrame f s).freeCount = (releaseFrame f s).freeCount
      ∧ ∀ u, ((completeFrame f s).tenant u).inBuffer = ((releaseFrame f s).tenant u).inBuffer := by
  refine ⟨fun q => ?_, ?_, fun u => ?_⟩
  · unfold completeFrame releaseFrame
    rw [lowerLossless_port, lowerLossless_port, chargeCheck_eq]
    rfl
  · unfold completeFrame releaseFrame
    rw [lowerLossless_eq, lowerLossless_eq f (lowerInBuffer _ _), chargeCheck_eq]
  · unfold completeFrame releaseFrame
    rw [lowerLossless_eq, lowerLossless_eq f (lowerInBuffer _ _)]
    exact chargeCheck_inBuffer _ f u

/-- What a copy adds to the lossless count of each port. -/
theorem raiseLossless_losslessCount (c : Copy) (x : Bool) (q : Nat) :
    ((raiseLossless c s).port q).losslessCount
      = (s.port q).losslessCount + cellsOf (enteredAt q [queuedFrame c x]) := by
  unfold raiseLossless
  by_cases hc : c.cls = .c2
  · rw [if_pos hc, State.port_set]
    by_cases hq : q = c.ingress.val
    · subst hq
      rw [if_pos rfl, Port.pauseOnTest_eq]
      simp [enteredAt, queuedFrame, hc, cellsOf]
    · have hne : ¬c.ingress.val = q := fun h => hq h.symm
      simp [enteredAt, queuedFrame, hq, hne, cellsOf]
  · simp [enteredAt, queuedFrame, hc, cellsOf]

theorem raiseLossless_port (c : Copy) (q : Nat) :
    ((raiseLossless c s).port q).queues = (s.port q).queues := by
  unfold raiseLossless
  split
  · rw [State.port_set]
    split
    · next h => rw [Port.pauseOnTest_eq, h]
    · rfl
  · rfl

theorem raiseLossless_eq (c : Copy) : raiseLossless c s = { s with ports := (raiseLossless c s).ports } := by
  unfold raiseLossless
  split <;> rfl

theorem moves_admitCopy {c : Copy} {p : Nat} (hp : p < 40) (hroom : c.cells ≤ s.freeCount) :
    Moves s (admitCopy c p s) [queuedFrame c ((s.tenant c.tenant).state == .draining)] [] := by
  have hqueues (q : Nat) : ((admitCopy c p s).port q).queues = if q = p then
      (s.port p).queues.set c.cls ((s.port p).queues.get c.cls
        ++ [queuedFrame c ((s.tenant c.tenant).state == .draining)]) else (s.port q).queues := by
    unfold admitCopy takeRoom enqueue
    rw [raiseLossless_port]
    dsimp only
    rw [State.setTenant_port]
    show ((s.setPort p _).port q).queues = _
    rw [State.port_set]
    split
    · rw [stormSync_queues]
    · rfl
  refine moves_of_onePort hp (fun q hq => ?_) (fun w _ => ?_) (fun hs => ?_) ?_ (fun u => ?_) fun q => ?_
  · rw [hqueues, if_neg hq]
  · have := weigh_portFrames_set w ((hqueues p).trans (if_pos rfl))
    rw [weigh_append] at this
    rw [weigh_nil]
    omega
  · refine classesMatch_set hs ((hqueues p).trans (if_pos rfl)) fun f hf => ?_
    rcases List.mem_append.mp hf with hf | hf
    · exact hs _ f hf
    · rw [List.mem_singleton.mp hf]; rfl
  · unfold admitCopy takeRoom
    rw [raiseLossless_eq]
    show s.freeCount - c.cells + cellsOf [queuedFrame c _] = s.freeCount + 0
    simp only [cellsOf, queuedFrame, List.map_cons, List.map_nil, List.sum_cons, List.sum_nil]
    omega
  · unfold admitCopy takeRoom
    rw [raiseLossless_eq]
    show (((enqueue c p s).setTenant c.tenant _).tenant u).inBuffer = _
    rw [State.tenant_set]
    by_cases hu : u = c.tenant
    · subst hu
      simp [framesOf, queuedFrame, enqueue]
    · have hne : ¬c.tenant = u := fun h => hu h.symm
      simp [framesOf, queuedFrame, enqueue, hu, hne]
  · unfold admitCopy
    rw [raiseLossless_losslessCount _ c ((s.tenant c.tenant).state == .draining)]
    show ((enqueue c p s).port q).losslessCount + _ = _
    unfold enqueue
    dsimp only
    rw [State.port_set]
    split
    · next h => rw [stormSync_losslessCount, h]; rfl
    · rfl

theorem weigh_markHead {w : QFrame → Nat} (hw : markBlind w) (n : Nat) (l : List QFrame) :
    weigh w (markHead n l) = weigh w l := by
  unfold markHead
  split
  · rfl
  · split
    · rw [weigh_cons, weigh_cons, hw]
    · rfl

theorem cls_of_mem_markHead {n : Nat} {l : List QFrame} {c : Cls} (h : ∀ f ∈ l, f.cls = c) :
    ∀ f ∈ markHead n l, f.cls = c := by
  unfold markHead
  split
  · exact h
  · next f rest =>
    split
    · intro g hg
      rcases List.mem_cons.mp hg with rfl | hg
      · exact h f List.mem_cons_self
      · exact h g (List.mem_cons_of_mem f hg)
    · exact h

theorem moves_startFrom {p : Nat} (hp : p < 40) (c : Cls) (i : Fin 4) :
    Moves s (startFrom p c i s) [] [] := by
  have hset (q : Nat) := State.port_set s p q { s.port p with
    queues := (s.port p).queues.set c (markHead (s.policy (kindOfPort p) c).mark ((s.port p).queues.get c))
    transmitter := .frame c
    rotation := i }
  unfold startFrom
  refine moves_of_onePort hp (fun q hq => ?_) (fun w hw => ?_) (fun hs => ?_) rfl (fun _ => rfl) fun q => ?_
  · rw [hset, if_neg hq]
  · have := weigh_portFrames_set w (r := s.port p) (congrArg Port.queues ((hset p).trans (if_pos rfl)))
    rw [weigh_markHead hw] at this
    exact Nat.add_right_cancel this
  · rw [hset, if_pos rfl]
    exact classesMatch_set hs rfl (cls_of_mem_markHead (hs c))
  · rw [hset]
    split
    · next h => rw [h]; rfl
    · rfl

end Operations

/-! ### Chains of movements -/

/-- `t` follows `s` by movements of frames. -/
inductive Flows (s : State) : State → Prop
  | refl : Flows s s
  | step {t u : State} {came gone : List QFrame} (h : Flows s t) (h' : Moves t u came gone) : Flows s u

theorem Moves.flows {s t : State} {came gone : List QFrame} (h : Moves s t came gone) : Flows s t :=
  .step .refl h

theorem Flows.trans {s t u : State} (h : Flows s t) (h' : Flows t u) : Flows s u := by
  induction h' with
  | refl => exact h
  | step _ hm ih => exact .step ih hm

theorem flows_of_ports {s t : State} (hport : ∀ q, t.port q = s.port q)
    (hfree : t.freeCount = s.freeCount)
    (htenant : ∀ x, (t.tenant x).inBuffer = (s.tenant x).inBuffer) : Flows s t :=
  (moves_of_ports hport hfree htenant).flows

section Chains
variable (s : State)

theorem flows_pend (k : NoticeKind) (x : Nat) : Flows s (pend k x s) :=
  flows_of_ports (fun q => pend_port s k x q) (by rw [pend_eq]) fun u => by rw [pend_tenant]

theorem flows_setPort {p : Nat} (r : Port) (hq : r.queues = (s.port p).queues)
    (hl : r.losslessCount = (s.port p).losslessCount) : Flows s (s.setPort p r) :=
  (moves_of_portSet (portSet_setPort s p r) hq hl).flows

theorem flows_leaveUp {p : Nat} (hp : p < 40) (l : LinkState) : Flows s (leaveUp p l s) := by
  obtain ⟨gone, h⟩ := moves_abortTransmission (s.setPort p { s.port p with link := l }.ingressCleared) hp
  have hset : Flows s (s.setPort p { s.port p with link := l }.ingressCleared) := flows_setPort s _ rfl rfl
  exact .step hset h

theorem quieted_queues (r : Port) : r.quieted.queues = r.queues := rfl

theorem quieted_losslessCount (r : Port) : r.quieted.losslessCount = r.losslessCount := rfl

theorem flows_downEffects {p : Nat} (hp : p < 40) : Flows s (downEffects p s) := by
  unfold downEffects
  have hflush : Flows s (flushAll p s) :=
    (((moves_flushQueue s hp .c0).flows.step (moves_flushQueue _ hp .c1)).step
      (moves_flushQueue _ hp .c2)).step (moves_flushQueue _ hp .c3)
  have hquiet := hflush.trans
    (flows_setPort (flushAll p s) (p := p) _ (quieted_queues _) (quieted_losslessCount _))
  have hpend := hquiet.trans (flows_pend _ .linkDown p)
  dsimp only
  split
  · exact hpend.trans (flows_of_ports (fun _ => rfl) rfl fun _ => rfl)
  · exact hpend

theorem flows_stormExpiry {p : Nat} (hp : p < 40) : Flows s (stormExpiry p s) := by
  unfold stormExpiry
  split
  · have hstall : Flows s (s.setPort p (s.port p).stalled) := flows_setPort s _ rfl rfl
    have hflush := hstall.step (moves_flushQueue _ hp .c2)
    have hpend := hflush.trans (flows_pend _ .pauseStorm p)
    generalize pend .pauseStorm p (flushQueue p .c2 (s.setPort p (s.port p).stalled)) = u at hpend ⊢
    exact hpend.trans (flows_setPort u _ rfl rfl)
  · exact .refl

theorem flows_becomeVacantIfDone (x : Nat) : Flows s (becomeVacantIfDone x s) := by
  refine flows_of_ports (fun q => ?_) ?_ fun u => ?_
  · rw [becomeVacantIfDone_eq]; rfl
  · rw [becomeVacantIfDone_eq]
  · rw [becomeVacantIfDone_tenant]
    split
    · next h => rw [h.1, h.2.2.1]; rfl
    · rfl

theorem flows_endPass (j : Jobs) : Flows s (endPass j s) := by
  have hfold (l : NatSet) (u : State) : Flows u (l.foldl (fun s x => becomeVacantIfDone x s) u) := by
    induction l generalizing u with
    | nil => exact .refl
    | cons x rest ih => exact (flows_becomeVacantIfDone u x).trans (ih _)
  refine .trans (flows_of_ports (fun _ => ?_) ?_ fun _ => ?_) (hfold j.tenants _)
  · rw [pendAll_eq, pendAll_eq .flushDone]; rfl
  · rw [pendAll_eq, pendAll_eq .flushDone]
  · rw [pendAll_eq, pendAll_eq .flushDone]; rfl

theorem flows_retestPorts (l : List Nat) : Flows s (l.foldl retestPort s) := by
  induction l generalizing s with
  | nil => exact .refl
  | cons p rest ih =>
    refine .trans ?_ (ih _)
    unfold retestPort
    dsimp only
    split
    · exact flows_setPort s _ (by rw [Port.pauseOnTest_eq]) (by rw [Port.pauseOnTest_eq])
    · exact flows_setPort s _ (by rw [Port.pauseOffTest_eq]) (by rw [Port.pauseOffTest_eq])

end Chains

/-- The events of one port move no frame. -/
theorem portEvent_keeps {now budget : Nat} {q : PauseSettings} {r r' : Port}
    (h : PortEvent now q budget r r') :
    r'.queues = r.queues ∧ r'.losslessCount = r.losslessCount := by
  cases h
  case entersUp => rw [Port.pauseOnTest_eq]; exact ⟨rfl, rfl⟩
  case pauseReceived d =>
    rw [Port.stormSync_eq]
    unfold Port.pauseReceived
    split
    · exact ⟨rfl, rfl⟩
    · split <;> exact ⟨rfl, rfl⟩
    · split <;> exact ⟨rfl, rfl⟩
  case pauseExpires => rw [Port.stormSync_eq]; exact ⟨rfl, rfl⟩
  all_goals exact ⟨rfl, rfl⟩

theorem tenantEvent_inBuffer {r r' : Tenant} (h : TenantEvent r r') : r'.inBuffer = r.inBuffer := by
  cases h
  case amended => rw [rederive_eq]; rfl
  case toppedUp => rw [Tenant.toppedUp, rederive_eq]
  case collected => rw [Tenant.collected, rederive_eq]
  all_goals rfl

theorem flows_stationEvent {s t : State} (h : StationEvent s t) : Flows s t :=
  flows_of_ports (fun q => by rw [h.eq]; rfl) (by rw [h.eq]) fun u => by rw [h.tenant]

theorem flows_setTenant {s : State} {x : Nat} {r : Tenant} (h : r.inBuffer = (s.tenant x).inBuffer) :
    Flows s (s.setTenant x r) :=
  flows_of_ports (fun _ => rfl) rfl fun u => by
    rw [State.tenant_set]
    split
    · next hu => rw [h, hu]
    · rfl

/-- Every effect but POWER_ON moves frames, or none. -/
theorem flows_of_effect {s t : State} (h : Effect s t) (hpower : ∀ l, t ≠ { State.reset with pending := l }) :
    Flows s t := by
  cases h
  case none => exact .refl
  case powerOn l => exact absurd rfl (hpower l)
  case port p r hp he ht =>
    obtain ⟨hq, hl⟩ := portEvent_keeps he
    exact (moves_of_portSet ht hq hl).flows
  case join c p hp hadm =>
    simp only [State.admits, Bool.and_eq_true, decide_eq_true_eq] at hadm
    exact (moves_admitCopy s hp hadm.1.1.1.1.2).flows
  case start p c i hp _ _ => exact (moves_startFrom s hp c i).flows
  case complete p c f rest hp _ hq =>
    obtain ⟨hport, hfree, htenant⟩ := completeFrame_reads (s.setPort p (s.stormSync
      { s.port p with queues := (s.port p).queues.set c rest, transmitter := .idle })) f
    exact ((moves_takeOldest s hp hq).of_reads hport hfree htenant).flows
  case suspect p e u hp _ hu =>
    exact (moves_of_portSet hu rfl rfl).flows.trans (flows_leaveUp u hp _)
  case fall p r u hp hfall hu =>
    exact (moves_of_portSet hu hfall.queues hfall.losslessCount).flows.trans (flows_downEffects u hp)
  case adminFall p hp _ => exact (flows_leaveUp s hp _).trans (flows_downEffects _ hp)
  case storm p hp _ => exact flows_stormExpiry s hp
  case pauseWrite k q _ =>
    have hset : Flows s { s with pauseSettings := s.pauseSettings.set k q } :=
      flows_of_ports (fun _ => rfl) rfl fun _ => rfl
    exact hset.trans (flows_retestPorts _ (portsOfKind k))
  case tenant x r he => exact flows_setTenant (tenantEvent_inBuffer he)
  case retire x _ =>
    have hpost : Flows s (postPurge x s) := flows_of_ports (fun _ => rfl) rfl fun _ => rfl
    have hset : Flows (postPurge x s)
        ((postPurge x s).setTenant x { s.tenant x with state := .draining }) := flows_setTenant rfl
    exact hpost.trans hset
  case learn x a q hx hopen ha => exact flows_stationEvent (stationEvent_learn q hx hopen ha)
  case insert x a target hx ha hv hd => exact flows_stationEvent (stationEvent_insert target hx ha hv hd)
  case remove x a i e hf => exact flows_stationEvent (.leave i e (findEntry_some hf).2.1)
  case stationVisit q _ _ =>
    exact (flows_stationEvent (stationEvent_visit s q.carried q.position)).trans
      (flows_of_ports (fun _ => rfl) rfl fun _ => rfl)
  case passEnd q _ _ => exact flows_endPass s q.carried
  all_goals exact flows_of_ports (fun _ => rfl) rfl fun _ => rfl

/-! ### The laws (R119, R4, R133) -/

theorem heldCells_eq (s : State) : heldCells s = held QFrame.cells s := by
  unfold heldCells held portCells
  refine congrArg List.sum (List.map_congr_left fun p _ => ?_)
  simp only [portFrames, weigh_append]
  rfl

theorem framesOf_eq (u : Nat) (l : List QFrame) :
    framesOf u l = weigh (fun f => if f.tenant == u then 1 else 0) l := by
  rw [← weigh_filter (fun _ => 1) (fun f => f.tenant == u)]
  simp [framesOf, weigh]

theorem framesHeld_eq (s : State) (u : Nat) :
    ((List.range 40).map fun p => portFramesOf u (s.port p)).sum
      = held (fun f => if f.tenant == u then 1 else 0) s := by
  unfold held portFramesOf
  refine congrArg List.sum (List.map_congr_left fun p _ => ?_)
  simp only [portFrames, weigh_append, framesOf_eq]

/-- The cells that a frame holds of the lossless count of port `q` (R133). -/
def losslessWeight (q : Fin 40) (f : QFrame) : Nat :=
  if f.cls == .c2 && f.ingress.val == q.val then f.cells else 0

theorem weigh_losslessWeight (q : Fin 40) (l : List QFrame) :
    weigh (losslessWeight q) l = cellsOf (enteredAt q l) :=
  (weigh_filter QFrame.cells (fun f => f.cls == .c2 && f.ingress.val == q.val) l).symm

theorem losslessHeld_eq {s : State} (hs : ∀ p, classesMatch (s.port p)) (q : Fin 40) :
    ((List.range 40).map fun p => cellsFrom q (s.port p).queues.c2).sum = held (losslessWeight q) s := by
  unfold held
  refine congrArg List.sum (List.map_congr_left fun p _ => ?_)
  have hother (c : Cls) (hc : c ≠ .c2) : weigh (losslessWeight q) ((s.port p).queues.get c) = 0 := by
    rw [weigh_losslessWeight]
    have : enteredAt q ((s.port p).queues.get c) = [] := by
      by_contra hne
      obtain ⟨f, hf, hcls, -⟩ := enteredAt_ne_nil.mp hne
      exact hc ((hs p c f hf).symm.trans hcls)
    rw [this]; rfl
  have h0 := hother .c0 (by decide)
  have h1 := hother .c1 (by decide)
  have h3 := hother .c3 (by decide)
  have h2 : weigh (losslessWeight q) (s.port p).queues.c2 = cellsFrom q (s.port p).queues.c2 := by
    rw [weigh_losslessWeight, cellsFrom, enteredAt]
    congr 1
    refine List.filter_congr fun f hf => ?_
    rw [hs p .c2 f hf]
    simp [Fin.ext_iff]
  simp only [PerClass.get] at h0 h1 h3
  simp only [portFrames, weigh_append]
  omega

section Laws
variable {s t : State}

theorem freeCountLaw_of_flows (h : Flows s t) (hs : FreeCountLaw s) : FreeCountLaw t := by
  induction h with
  | refl => exact hs
  | step _ hm ih =>
    have hheld := hm.held QFrame.cells fun _ => rfl
    have hfree := hm.freeCount
    unfold FreeCountLaw at ih ⊢
    rw [heldCells_eq] at ih ⊢
    unfold cellsOf at hfree
    unfold weigh at hheld
    omega

theorem inBufferLaw_of_flows (h : Flows s t) (hs : InBufferLaw s) : InBufferLaw t := by
  induction h with
  | refl => exact hs
  | step _ hm ih =>
    intro u
    have hu := ih u
    have hheld := hm.held (fun f => if f.tenant == u then 1 else 0) fun _ => rfl
    rw [framesHeld_eq] at hu ⊢
    rw [hm.inBuffer, framesOf_eq, framesOf_eq]
    omega

theorem losslessLaw_of_flows (h : Flows s t) (hs : LosslessLaw s) : LosslessLaw t := by
  induction h with
  | refl => exact hs
  | step _ hm ih =>
    obtain ⟨hclasses, hcounts⟩ := ih
    refine ⟨hm.classes hclasses, fun q => ?_⟩
    have hq := hcounts q
    have hheld := hm.held (losslessWeight q) fun _ => rfl
    rw [losslessHeld_eq hclasses] at hq
    rw [losslessHeld_eq (hm.classes hclasses), hm.lossless, ← weigh_losslessWeight, ← weigh_losslessWeight]
    omega

end Laws

/-- The registers and tables at power-on meet the three laws. -/
theorem buffer_reset (l : List Instr) :
    FreeCountLaw { State.reset with pending := l } ∧ InBufferLaw { State.reset with pending := l }
      ∧ LosslessLaw { State.reset with pending := l } := by
  have hempty (f : Port → Nat) (h : f powerOnPort = 0) (u : State) (hu : ∀ p, u.port p = powerOnPort) :
      ((List.range 40).map fun p => f (u.port p)).sum = 0 := by
    simp only [hu, h]
    simp
  have hport (p : Nat) : ({ State.reset with pending := l } : State).port p = powerOnPort := rfl
  refine ⟨?_, fun u => ?_, fun p c f hf => ?_, fun q => ?_⟩
  · unfold FreeCountLaw heldCells
    rw [hempty portCells rfl _ hport]
    rfl
  · rw [hempty (portFramesOf u) rfl _ hport]
    rfl
  · rw [hport] at hf
    cases c <;> cases hf
  · rw [hempty (fun r => cellsFrom q r.queues.c2) rfl _ hport]
    rfl

/-- A law that reads only the records, holds at power-on and is kept by movements, is kept by every step. -/
theorem law_of_flows {P : State → Prop} (hsame : ∀ {s t}, SameRecords s t → P s → P t)
    (hreset : ∀ l, P { State.reset with pending := l }) (hflows : ∀ {s t}, Flows s t → P s → P t)
    {s t : State} (hs : P s) (h : step s = .next t) : P t := by
  refine law_of_effects hsame (fun {s t} heff hs => ?_) hs h
  by_cases hpower : ∃ l, t = { State.reset with pending := l }
  · obtain ⟨l, rfl⟩ := hpower
    exact hreset l
  · exact hflows (flows_of_effect heff fun l hl => hpower ⟨l, hl⟩) hs

theorem flows_of_sameRecords {s t : State} (h : SameRecords s t) : Flows s t :=
  flows_of_ports h.port h.freeCount fun u => by rw [h.tenant]

/-- Settles O52: every movement of frames moves as many cells into or out of the free count. -/
theorem everyStepKeepsTheFreeCount : Obligations.EveryStepKeepsTheFreeCount := by
  unfold Obligations.EveryStepKeepsTheFreeCount
  exact fun s t hs h => law_of_flows (fun hsame => freeCountLaw_of_flows (flows_of_sameRecords hsame))
    (fun l => (buffer_reset l).1) freeCountLaw_of_flows hs h

/-- Settles O53: every movement of frames moves the in-buffer count of each frame's tenant. -/
theorem everyStepKeepsTheInBufferCounts : Obligations.EveryStepKeepsTheInBufferCounts := by
  unfold Obligations.EveryStepKeepsTheInBufferCounts
  exact fun s t hs h => law_of_flows (fun hsame => inBufferLaw_of_flows (flows_of_sameRecords hsame))
    (fun l => (buffer_reset l).2.1) inBufferLaw_of_flows hs h

/-- Settles O54: every movement of frames moves the lossless count of each C2 frame's ingress port. -/
theorem everyStepKeepsTheLosslessCounts : Obligations.EveryStepKeepsTheLosslessCounts := by
  unfold Obligations.EveryStepKeepsTheLosslessCounts
  exact fun s t hs h => law_of_flows (fun hsame => losslessLaw_of_flows (flows_of_sameRecords hsame))
    (fun l => (buffer_reset l).2.2) losslessLaw_of_flows hs h

end Sys2Proof.Proofs.Buffer

/-! The ports one by one under every effect: each port's next record follows from the one before by elementary
moves (`PortMove`), and each law of the ports is kept by each move. -/

namespace Sys2Proof.Proofs.PortLaws

open Sys2Proof Sys2Proof.Machine Sys2Proof.Safety Sys2Proof.Proofs.Outcomes Sys2Proof.Proofs.Ports
  Sys2Proof.Proofs.Effects Sys2Proof.Proofs.Stations Sys2Proof.Proofs.Buffer

/-! ### What the operations leave at each port -/

/-- R125, R133: the port once a copy of `n` cells that entered there has joined a C2 queue. -/
def raisedPort (q : PauseSettings) (now n : Nat) (r : Port) : Port :=
  Port.pauseOnTest { r with losslessCount := r.losslessCount + n } q now

/-- R125: the port once a copy has joined one of its queues. -/
def joinedPort (s : State) (c : Copy) (r : Port) : Port :=
  s.stormSync { r with
    queues := r.queues.set c.cls (r.queues.get c.cls
      ++ [queuedFrame c ((s.tenant c.tenant).state == .draining)]) }

/-- R148: the port once it is tested against new settings. -/
def retestedPort (q : PauseSettings) (now : Nat) (r : Port) : Port :=
  match r.ingress with
  | .flowing => r.pauseOnTest q now
  | .pausing => r.pauseOffTest q

section Operations
variable (s : State)

theorem admitCopy_port (c : Copy) (p q : Nat) :
    (admitCopy c p s).port q
      = (if c.cls = .c2 ∧ q = c.ingress.val then raisedPort (s.pauseOf q) s.timebase c.cells else id)
          (if q = p then joinedPort s c (s.port p) else s.port q) := by
  have henqueue (x : Nat) : (takeRoom c (enqueue c p s)).port x
      = if x = p then joinedPort s c (s.port p) else s.port x := by
    unfold takeRoom
    rw [State.setTenant_port]
    exact State.port_set s p x _
  unfold admitCopy raiseLossless
  by_cases hc : c.cls = .c2
  · rw [if_pos hc, State.port_set]
    by_cases hq : q = c.ingress.val
    · rw [if_pos hq, if_pos ⟨hc, hq⟩, henqueue, ← hq]
      rfl
    · rw [if_neg hq, if_neg fun h => hq h.2, henqueue]
      rfl
  · rw [if_neg hc, if_neg fun h => hc h.1, henqueue]
    rfl

theorem retestPort_eq (p : Nat) :
    retestPort s p = s.setPort p (retestedPort (s.pauseOf p) s.timebase (s.port p)) := by
  unfold retestPort retestedPort
  dsimp only
  rcases (s.port p).ingress with _ | _
  · rfl
  · rfl

/-- R148: each port of the list is tested once; the test is the same again. -/
theorem retestPorts_port {l : List Nat} (hl : l.Nodup) (q : Nat) :
    (l.foldl retestPort s).port q
      = if q ∈ l then retestedPort (s.pauseOf q) s.timebase (s.port q) else s.port q := by
  induction l generalizing s with
  | nil => rfl
  | cons p rest ih =>
    obtain ⟨hp, hrest⟩ := List.nodup_cons.mp hl
    rw [List.foldl_cons, ih _ hrest, retestPort_eq, State.port_set]
    by_cases hq : q = p
    · subst hq
      simp [hp]
    · simp [hq]
      rfl

theorem mem_portsOfKind {k : PortKind} {p : Nat} : p ∈ portsOfKind k ↔ p < 40 ∧ kindOfPort p = k := by
  simp [portsOfKind]

theorem portsOfKind_nodup (k : PortKind) : (portsOfKind k).Nodup := List.nodup_range.filter _

/-! ### A transmission aborted (R130) -/

/-- An abort changes the port's queues, its transmitter and the storm timer. -/
theorem abortedPort_eq (r : Port) : abortedPort s r = { r with
    queues := (abortedPort s r).queues, transmitter := .idle, storm := (abortedPort s r).storm } := by
  unfold abortedPort
  split
  · split
    · rfl
    · rw [stormSync_eq]
  · next h => exact (idle_eta h).symm
  · rfl

/-- An abort leaves of each queue the frames that are not aborted. -/
theorem abortedPort_queue_nil {r : Port} {c : Cls} (h : r.queues.get c = []) :
    (abortedPort s r).queues.get c = [] := by
  unfold abortedPort
  split
  · next d _ =>
    split
    · exact h
    · rw [stormSync_queues, PerClass.get_set]
      split
      · next hd => rw [← hd, h]; rfl
      · exact h
  · exact h
  · exact h

/-- R143: an abort keeps the law of the storm timer. -/
theorem abortedPort_storm {r : Port} (h : r.storm.isSome = true ↔ r.c2State = .paused ∧ r.queues.c2 ≠ []) :
    (abortedPort s r).storm.isSome = true ↔ r.c2State = .paused ∧ (abortedPort s r).queues.c2 ≠ [] := by
  unfold abortedPort
  split
  · split
    · exact h
    · rw [stormSync_queues]
      exact Port.stormSync_runs _ _ _
  · exact h
  · exact h

theorem leftUpPort_eq (l : LinkState) (r : Port) : leftUpPort s l r = { r with
    link := l, ingress := .flowing, renewal := none, slot := none
    queues := (leftUpPort s l r).queues, transmitter := .idle, storm := (leftUpPort s l r).storm } := by
  unfold leftUpPort
  rw [abortedPort_eq]
  rfl

end Operations

/-! ### The moves of a port -/

/-- R151, R153, R157, R161: a port that has fallen to DOWN or ADMIN_DOWN. -/
structure Fallen (now : Nat) (r r' : Port) : Prop where
  link : r'.link = .down ∨ r'.link = .adminDown
  debounceEnd : r'.debounceEnd = none ∨ r.link = .up ∧ r'.debounceEnd = r.debounceEnd
  holdDownEnd : r'.holdDownEnd = none ∨ r.link = .up ∧ r'.holdDownEnd = r.holdDownEnd
  flaps : r'.flapHistory = r.flapHistory ∨ ∃ w, r'.flapHistory = flapAppend r.flapHistory now w
  transmitter : r'.transmitter = .idle
    ∨ r.link ≠ .up ∧ r'.transmitter = withoutFrame r.transmitter
  queues : r'.queues = ⟨[], [], [], []⟩
  ingress : r'.ingress = .flowing ∧ r'.renewal = none
  c2 : r'.c2State = .ready ∧ r'.pauseEnd = none ∧ r'.storm = none

/-- The elementary changes of a port; `q` is its pause settings after them. -/
inductive PortMove (now : Nat) (q : PauseSettings) (r : Port) : Port → Prop
  | event {budget : Nat} {r' : Port} (h : PortEvent now q budget r r') : PortMove now q r r'
  | lowered (l : List QFrame) : PortMove now q r (loweredPort q l r)
  | raised (n : Nat) : PortMove now q r (raisedPort q now n r)
  | joined (s : State) (c : Copy) (hup : r.link = .up) (hstall : c.cls = .c2 → r.c2State ≠ .stalled) :
      PortMove now q r (joinedPort s c r)
  | starts (c : Cls) (i : Fin 4) (n : Nat) (hdue : r.startDue = true) (hch : r.startChoice = some (c, i)) :
      PortMove now q r { r with
        queues := r.queues.set c (markHead n (r.queues.get c)), transmitter := .frame c, rotation := i }
  | completes (s : State) (c : Cls) (f : QFrame) (rest : List QFrame) (ht : r.transmitter = .frame c)
      (hq : r.queues.get c = f :: rest) :
      PortMove now q r (s.stormSync { r with queues := r.queues.set c rest, transmitter := .idle })
  | suspects (s : State) (e : Nat) (h : r.link = .up) :
      PortMove now q r (leftUpPort s .suspect { r with lane := .lost, debounceEnd := some e })
  | falls {r' : Port} (h : Fallen now r r') : PortMove now q r r'
  | storms (s : State) : PortMove now q r (emptiedPort s .c2 r.stalled)
  | recovery (e : Option Nat) (b : Bool) : PortMove now q r { r with recoveryEnd := e, stormHold := b }
  | retested : PortMove now q r (retestedPort q now r)

/-- Moves in turn. -/
abbrev PortMoves (now : Nat) (q : PauseSettings) : Port → Port → Prop :=
  Relation.ReflTransGen (PortMove now q)

section Moves
variable {now : Nat} {q : PauseSettings} {r r' : Port}

theorem PortMove.once (h : PortMove now q r r') : PortMoves now q r r' := .single h

theorem portMoves_of_eq (h : r' = r) : PortMoves now q r r' := h ▸ .refl

/-- R157: the down effects on a port found as `Falls` says. -/
theorem fallen_of_falls (h : Falls now r r') (n : Nat) : Fallen now r { r' with
    losslessCount := n, queues := ⟨[], [], [], []⟩, transmitter := withoutFrame r'.transmitter
    ingress := .flowing, slot := none, renewal := none, c2State := .ready, pauseEnd := none
    storm := none } where
  link := h.link
  debounceEnd := .inl h.ends.1
  holdDownEnd := .inl h.ends.2
  flaps := h.flaps
  transmitter := by
    refine .inr ⟨fun hup => ?_, by rw [h.transmitter]⟩
    rcases h.wasHeld with hw | hw
    · exact nomatch hup.symm.trans hw
    · exact nomatch hup.symm.trans hw
  queues := rfl
  ingress := ⟨rfl, rfl⟩
  c2 := ⟨rfl, rfl, rfl⟩

end Moves

theorem pauseOf_congr {s t : State} (h : t.pauseSettings = s.pauseSettings) (p : Nat) :
    t.pauseOf p = s.pauseOf p := by
  unfold State.pauseOf
  rw [h]

/-! ### What the operations of the buffer leave alone -/

theorem onlyBuffer_trans {s t u : State} (h : OnlyBufferChanged s t) (h' : OnlyBufferChanged t u) :
    OnlyBufferChanged s u := by
  unfold OnlyBufferChanged at h h' ⊢
  calc u = _ := h'
    _ = _ := by rw [h]

section Frame
variable (s : State)

theorem onlyBuffer_refl : OnlyBufferChanged s s := rfl

theorem onlyBuffer_setPort (p : Nat) (r : Port) : OnlyBufferChanged s (s.setPort p r) := rfl

theorem onlyBuffer_pend (k : NoticeKind) (x : Nat) : OnlyBufferChanged s (pend k x s) := by
  unfold OnlyBufferChanged
  rw [pend_eq]

theorem onlyBuffer_releaseFrames (l : List QFrame) :
    OnlyBufferChanged s (l.foldl (fun s f => releaseFrame f s) s) := releaseFrames_eq l s

theorem onlyBuffer_releaseFrame (f : QFrame) : OnlyBufferChanged s (releaseFrame f s) :=
  onlyBuffer_releaseFrames s [f]

theorem onlyBuffer_flushQueue (p : Nat) (c : Cls) : OnlyBufferChanged s (flushQueue p c s) :=
  flushQueue_eq p c s

theorem onlyBuffer_flushAll (p : Nat) : OnlyBufferChanged s (flushAll p s) :=
  onlyBuffer_trans (onlyBuffer_trans (onlyBuffer_trans (onlyBuffer_flushQueue s p .c0) (onlyBuffer_flushQueue _ p .c1))
    (onlyBuffer_flushQueue _ p .c2)) (onlyBuffer_flushQueue _ p .c3)

theorem onlyBuffer_abortTransmission (p : Nat) : OnlyBufferChanged s (abortTransmission p s) := by
  rcases abortTransmission_cases s p with ⟨c, f, rest, -, -, h⟩ | ⟨-, -, -, h | ⟨-, h⟩⟩
  · rw [h]
    exact onlyBuffer_trans (onlyBuffer_setPort s p _) (onlyBuffer_releaseFrame _ f)
  · rw [h]
    exact onlyBuffer_setPort s p _
  · rw [h]
    exact onlyBuffer_refl s

theorem onlyBuffer_leaveUp (p : Nat) (l : LinkState) : OnlyBufferChanged s (leaveUp p l s) :=
  onlyBuffer_trans (onlyBuffer_setPort s p _) (onlyBuffer_abortTransmission _ p)

theorem onlyBuffer_completeFrame (f : QFrame) : OnlyBufferChanged s (completeFrame f s) := by
  unfold OnlyBufferChanged completeFrame
  rw [lowerLossless_eq, chargeCheck_eq, lowerInBuffer_eq]
  rfl

theorem onlyBuffer_admitCopy (c : Copy) (p : Nat) : OnlyBufferChanged s (admitCopy c p s) := by
  unfold OnlyBufferChanged admitCopy
  rw [raiseLossless_eq]
  rfl

theorem onlyBuffer_stormExpiry (p : Nat) : OnlyBufferChanged s (stormExpiry p s) := by
  unfold stormExpiry
  split
  · exact onlyBuffer_trans (onlyBuffer_trans (onlyBuffer_trans (onlyBuffer_setPort s p _) (onlyBuffer_flushQueue _ p .c2))
      (onlyBuffer_pend _ .pauseStorm p)) (onlyBuffer_setPort _ p _)
  · exact onlyBuffer_refl s

/-- The down effects post a downlink's flush besides. -/
theorem downEffects_eq (p : Nat) : OnlyBufferChanged
    (if p < 32 then { s with jobs := { s.jobs with ports := setInsert s.jobs.ports p } } else s)
    (downEffects p s) := by
  have h := onlyBuffer_trans (onlyBuffer_trans (onlyBuffer_flushAll s p)
    (onlyBuffer_setPort _ p ((flushAll p s).port p).quieted)) (onlyBuffer_pend _ .linkDown p)
  unfold downEffects
  dsimp only
  change OnlyBufferChanged s (pend .linkDown p ((flushAll p s).setPort p _)) at h
  split
  · change OnlyBufferChanged _ (postFlush p (pend .linkDown p ((flushAll p s).setPort p
      ((flushAll p s).port p).quieted)))
    generalize pend .linkDown p ((flushAll p s).setPort p ((flushAll p s).port p).quieted) = u at h ⊢
    unfold OnlyBufferChanged postFlush at *
    rw [h]
  · exact h

end Frame

/-- The timebase, the time of the next AGING posting, the pause settings, the profiles and the station slots
are those of `s`. -/
structure SameRegisters (s t : State) : Prop where
  timebase : t.timebase = s.timebase
  nextAging : t.nextAging = s.nextAging
  pauseSettings : t.pauseSettings = s.pauseSettings
  profile : ∀ n, t.profile n = s.profile n
  station : ∀ n, t.station n = s.station n
  purges : t.jobs.tenants = s.jobs.tenants
  pass : t.pass = s.pass

theorem SameRegisters.trans {s t u : State} (h : SameRegisters s t) (h' : SameRegisters t u) :
    SameRegisters s u where
  timebase := h'.timebase.trans h.timebase
  nextAging := h'.nextAging.trans h.nextAging
  pauseSettings := h'.pauseSettings.trans h.pauseSettings
  profile n := (h'.profile n).trans (h.profile n)
  station n := (h'.station n).trans (h.station n)
  purges := h'.purges.trans h.purges
  pass := h'.pass.trans h.pass

theorem sameRegisters_of_buffer {s t : State} (h : OnlyBufferChanged s t) : SameRegisters s t where
  timebase := by rw [h]
  nextAging := by rw [h]
  pauseSettings := by rw [h]
  profile n := by rw [h]; rfl
  station n := by rw [h]; rfl
  purges := by rw [h]
  pass := by rw [h]

theorem sameRegisters_of_sameBut {s t : State} (h : SameBut s t) : SameRegisters s t where
  timebase := h.timebase
  nextAging := h.nextAging
  pauseSettings := h.pauseSettings
  profile := h.profile
  station := h.station
  purges := h.purges
  pass := h.pass

theorem sameRegisters_downEffects (s : State) (p : Nat) : SameRegisters s (downEffects p s) := by
  refine .trans ?_ (sameRegisters_of_buffer (downEffects_eq s p))
  split <;> exact ⟨rfl, rfl, rfl, fun _ => rfl, fun _ => rfl, rfl, rfl⟩

theorem SameRegisters.pauseOf {s t : State} (h : SameRegisters s t) (p : Nat) : t.pauseOf p = s.pauseOf p :=
  pauseOf_congr h.pauseSettings p

/-! ### The moves of every effect -/

section Effects
variable {s : State}

theorem fallen_of_adminFall {p : Nat} (h : (s.port p).link = .up) :
    Fallen s.timebase (s.port p) ((downEffects p (leaveUp p .adminDown s)).port p) := by
  rw [downEffects_port_same, leaveUp_port, if_pos rfl]
  have hleft := leftUpPort_eq s .adminDown (s.port p)
  generalize leftUpPort s .adminDown (s.port p) = r at hleft ⊢
  exact
    { link := .inr (by rw [hleft]; exact loweredPort_link ..)
      debounceEnd := .inr ⟨h, by rw [hleft]; exact loweredPort_debounceEnd ..⟩
      holdDownEnd := .inr ⟨h, by rw [hleft]; exact loweredPort_holdDownEnd ..⟩
      flaps := .inl (by rw [hleft]; exact loweredPort_flapHistory ..)
      transmitter := .inl (by rw [hleft]; simp only [loweredPort_transmitter, withoutFrame])
      queues := rfl, ingress := ⟨rfl, rfl⟩, c2 := ⟨rfl, rfl, rfl⟩ }

theorem portMoves_leftUp {p : Nat} {u : State} {e : Nat} (h : (s.port p).link = .up)
    (hu : PortSet s u p { s.port p with lane := .lost, debounceEnd := some e }) (x : Nat) :
    PortMoves s.timebase (s.pauseOf x) (s.port x) ((leaveUp p .suspect u).port x) := by
  rw [leaveUp_port, hu.port_same, pauseOf_congr hu.pauseSettings]
  refine .tail ?_ (.lowered _)
  split
  · next hx =>
    subst hx
    exact (PortMove.suspects u e h).once
  · next hx =>
    rw [hu.port, if_neg hx]

theorem portMoves_fall {p : Nat} {r : Port} {u : State} (h : Falls s.timebase (s.port p) r)
    (hu : PortSet s u p r) (x : Nat) :
    PortMoves s.timebase (s.pauseOf x) (s.port x) ((downEffects p u).port x) := by
  by_cases hx : x = p
  · subst hx
    rw [downEffects_port_same, hu.port_same]
    exact (PortMove.falls (fallen_of_falls h _)).once
  · rw [downEffects_port_other _ hx, hu.port x, if_neg hx, pauseOf_congr hu.pauseSettings]
    exact (PortMove.lowered _).once

theorem portMoves_adminFall {p : Nat} (h : (s.port p).link = .up) (x : Nat) :
    PortMoves s.timebase (s.pauseOf x) (s.port x) ((downEffects p (leaveUp p .adminDown s)).port x) := by
  by_cases hx : x = p
  · subst hx
    exact (PortMove.falls (fallen_of_adminFall h)).once
  · rw [downEffects_port_other _ hx, (sameRegisters_of_buffer (onlyBuffer_leaveUp s p _)).pauseOf, leaveUp_port _ p x,
      if_neg hx]
    exact (PortMove.lowered _).once.tail (.lowered _)

theorem portMoves_storm (p x : Nat) :
    PortMoves s.timebase (s.pauseOf x) (s.port x) ((stormExpiry p s).port x) := by
  unfold stormExpiry
  split
  · unfold startRecovery
    have hq : (s.setPort p (s.port p).stalled).pauseOf x = s.pauseOf x := rfl
    rw [State.port_set]
    simp only [pend_port, flushQueue_port, hq, State.port_set, if_true]
    split
    · next hx =>
      subst hx
      exact ((PortMove.storms _).once.tail (.lowered _)).tail (.recovery _ _)
    · exact (PortMove.lowered _).once
  · exact .refl

theorem portMoves_complete {p : Nat} {c : Cls} {f : QFrame} {rest : List QFrame}
    (ht : (s.port p).transmitter = .frame c) (hq : (s.port p).queues.get c = f :: rest) (x : Nat) :
    PortMoves s.timebase (s.pauseOf x) (s.port x) ((completeFrame f (s.setPort p (s.stormSync
      { s.port p with queues := (s.port p).queues.set c rest, transmitter := .idle }))).port x) := by
  rw [(completeFrame_reads _ f).1, releaseFrame_port_eq, State.port_set]
  refine .tail ?_ (.lowered _)
  split
  · next hx =>
    subst hx
    exact (PortMove.completes s c f rest ht hq).once
  · exact .refl

theorem portMoves_join {c : Copy} {p : Nat} (h : s.admits c p = true) (x : Nat) :
    PortMoves s.timebase (s.pauseOf x) (s.port x) ((admitCopy c p s).port x) := by
  simp only [State.admits, Bool.and_eq_true, beq_iff_eq] at h
  obtain ⟨⟨⟨⟨⟨hup, -⟩, -⟩, -⟩, hstall⟩, -⟩ := h
  have hjoin : PortMoves s.timebase (s.pauseOf x) (s.port x)
      (if x = p then joinedPort s c (s.port p) else s.port x) := by
    split
    · next hx =>
      subst hx
      refine (PortMove.joined s c hup fun hc => ?_).once
      rw [hc] at hstall
      simpa [Port.stateOf] using hstall
    · exact .refl
  rw [admitCopy_port]
  split
  · exact hjoin.tail (.raised _)
  · exact hjoin

/-- R148: a test of ports changes the ports alone. -/
theorem retestPorts_eq (l : List Nat) :
    l.foldl retestPort s = { s with ports := (l.foldl retestPort s).ports } := by
  induction l generalizing s with
  | nil => rfl
  | cons p rest ih =>
    rw [List.foldl_cons, ih, retestPort_eq]
    rfl

theorem portMoves_retest (k : PortKind) (x : Nat) :
    PortMoves s.timebase (((portsOfKind k).foldl retestPort s).pauseOf x) (s.port x)
      (((portsOfKind k).foldl retestPort s).port x) := by
  rw [pauseOf_congr (congrArg State.pauseSettings (retestPorts_eq (portsOfKind k))),
    retestPorts_port s (portsOfKind_nodup k)]
  split
  · exact PortMove.retested.once
  · exact .refl

theorem stationEvent_port {t : State} (h : StationEvent s t) (x : Nat) : t.port x = s.port x := by
  rw [h.eq]
  rfl

theorem endPass_eq (j : Jobs) : endPass j s = { s with
    pass := none, tenants := (endPass j s).tenants, notices := (endPass j s).notices
    interruptsSent := (endPass j s).interruptsSent } := by
  have hfold (l : NatSet) (u : State) : l.foldl (fun s x => becomeVacantIfDone x s) u = { u with
      tenants := (l.foldl (fun s x => becomeVacantIfDone x s) u).tenants
      notices := (l.foldl (fun s x => becomeVacantIfDone x s) u).notices
      interruptsSent := (l.foldl (fun s x => becomeVacantIfDone x s) u).interruptsSent } := by
    induction l generalizing u with
    | nil => rfl
    | cons x rest ih =>
      rw [List.foldl_cons, ih, becomeVacantIfDone_eq]
  unfold endPass
  dsimp only
  rw [hfold, pendAll_eq, pendAll_eq .flushDone]

/-- Every effect but POWER_ON moves each port by moves of its own. -/
theorem portMoves_of_effect {t : State} (h : Effect s t)
    (hpower : ∀ l, t ≠ { State.reset with pending := l }) (x : Nat) :
    PortMoves s.timebase (t.pauseOf x) (s.port x) (t.port x) := by
  cases h
  case powerOn l => exact absurd rfl (hpower l)
  case port p r hp he ht =>
    rw [(sameRegisters_of_sameBut ht.toSameBut).pauseOf, ht.port]
    split
    · next hx =>
      subst hx
      exact (PortMove.event he).once
    · exact .refl
  case join c p hp hadm =>
    rw [(sameRegisters_of_buffer (onlyBuffer_admitCopy s c p)).pauseOf]
    exact portMoves_join hadm x
  case start p c i hp hdue hch =>
    show PortMoves _ (s.pauseOf x) _ ((startFrom p c i s).port x)
    unfold startFrom
    dsimp only
    rw [State.port_set]
    split
    · next hx =>
      subst hx
      exact (PortMove.starts c i _ hdue hch).once
    · exact .refl
  case complete p c f rest hp ht hq =>
    rw [(sameRegisters_of_buffer (onlyBuffer_completeFrame _ f)).pauseOf]
    exact portMoves_complete ht hq x
  case suspect p e u hp hup hu =>
    rw [(sameRegisters_of_buffer (onlyBuffer_leaveUp u p _)).pauseOf, pauseOf_congr hu.pauseSettings]
    exact portMoves_leftUp hup hu x
  case fall p r u hp hfall hu =>
    rw [(sameRegisters_downEffects u p).pauseOf, pauseOf_congr hu.pauseSettings]
    exact portMoves_fall hfall hu x
  case adminFall p hp hup =>
    rw [(sameRegisters_downEffects _ p).pauseOf,
      (sameRegisters_of_buffer (onlyBuffer_leaveUp s p _)).pauseOf]
    exact portMoves_adminFall hup x
  case storm p hp hdue =>
    rw [(sameRegisters_of_buffer (onlyBuffer_stormExpiry s p)).pauseOf]
    exact portMoves_storm p x
  case pauseWrite k q hq =>
    exact portMoves_retest (s := { s with pauseSettings := s.pauseSettings.set k q }) k x
  case learn u a d hu hopen ha =>
    exact portMoves_of_eq (stationEvent_port (stationEvent_learn d hu hopen ha) x)
  case insert u a d hu ha hv hd =>
    exact portMoves_of_eq (stationEvent_port (stationEvent_insert d hu ha hv hd) x)
  case stationVisit d _ _ =>
    exact portMoves_of_eq (stationEvent_port (stationEvent_visit s d.carried d.position) x)
  case passEnd d _ _ =>
    rw [endPass_eq]
    exact .refl
  all_goals exact .refl

end Effects

end Sys2Proof.Proofs.PortLaws

/-! The laws of the ports, kept by each move of a port. -/

namespace Sys2Proof.Proofs.PortLaws

open Sys2Proof Sys2Proof.Machine Sys2Proof.Safety Sys2Proof.Proofs.Outcomes Sys2Proof.Proofs.Ports
  Sys2Proof.Proofs.Effects Sys2Proof.Proofs.Stations Sys2Proof.Proofs.Buffer

/-! ### The tests of one port -/

/-- R127, R128: the queue that a start takes from has a startable frame. -/
theorem startable_of_startChoice {r : Port} {c : Cls} {i : Fin 4} (h : r.startChoice = some (c, i)) :
    r.startable c = true := by
  unfold Port.startChoice at h
  split at h
  · next h3 => cases h; exact h3
  · split at h
    · next h2 => cases h; exact h2
    · obtain ⟨j, hj, he⟩ := Option.map_eq_some_iff.mp h
      cases he
      have := List.find?_some hj
      exact this

theorem queue_ne_nil_of_startable {r : Port} {c : Cls} (h : r.startable c = true) : r.queues.get c ≠ [] := by
  intro hnil
  simp [Port.startable, hnil] at h

theorem ready_of_startable {r : Port} (h : r.startable .c2 = true) : r.c2State = .ready := by
  simp only [Port.startable, Port.stateOf, Bool.and_eq_true, beq_iff_eq] at h
  exact h.2

theorem link_of_startDue {r : Port} (h : r.startDue = true) : r.link = .up := by
  simp only [Port.startDue, Bool.and_eq_true, beq_iff_eq] at h
  exact h.1.1.2

theorem markHead_eq_nil {n : Nat} {l : List QFrame} : markHead n l = [] ↔ l = [] := by
  unfold markHead
  split
  · exact Iff.rfl
  · split <;> simp

/-- R134: the pause-on test keeps the law of the renewal time. -/
theorem pauseOnTest_renewal {r : Port} {q : PauseSettings} {now : Nat}
    (h : r.renewal.isSome = true ↔ r.ingress = .pausing) :
    (r.pauseOnTest q now).renewal.isSome = true ↔ (r.pauseOnTest q now).ingress = .pausing := by
  unfold Port.pauseOnTest
  split
  · simp [Port.placePause]
  · exact h

theorem pauseOffTest_renewal {r : Port} {q : PauseSettings}
    (h : r.renewal.isSome = true ↔ r.ingress = .pausing) :
    (r.pauseOffTest q).renewal.isSome = true ↔ (r.pauseOffTest q).ingress = .pausing := by
  unfold Port.pauseOffTest
  split
  · simp
  · exact h

theorem retestedPort_eq (q : PauseSettings) (now : Nat) (r : Port) : retestedPort q now r = { r with
    ingress := (retestedPort q now r).ingress, slot := (retestedPort q now r).slot
    renewal := (retestedPort q now r).renewal } := by
  unfold retestedPort
  split
  · rw [Port.pauseOnTest_eq]
  · rw [Port.pauseOffTest_eq]

theorem raisedPort_eq (q : PauseSettings) (now n : Nat) (r : Port) : raisedPort q now n r = { r with
    losslessCount := r.losslessCount + n, ingress := (raisedPort q now n r).ingress
    slot := (raisedPort q now n r).slot, renewal := (raisedPort q now n r).renewal } := by
  unfold raisedPort
  rw [Port.pauseOnTest_eq]

/-- R140: what a pause message changes. -/
theorem pauseReceived_eq (r : Port) (d now : Nat) : r.pauseReceived d now = { r with
    c2State := (r.pauseReceived d now).c2State, pauseEnd := (r.pauseReceived d now).pauseEnd } := by
  unfold Port.pauseReceived
  split
  · rfl
  · split <;> rfl
  · split <;> rfl

theorem joinedPort_queues (s : State) (c : Copy) (r : Port) :
    (joinedPort s c r).queues = r.queues.set c.cls (r.queues.get c.cls
      ++ [queuedFrame c ((s.tenant c.tenant).state == .draining)]) := stormSync_queues s _

theorem joinedPort_eq (s : State) (c : Copy) (r : Port) : joinedPort s c r = { r with
    queues := (joinedPort s c r).queues, storm := (joinedPort s c r).storm } := by
  unfold joinedPort
  rw [stormSync_eq]

theorem emptiedPort_eq (s : State) (c : Cls) (r : Port) : emptiedPort s c r = { r with
    queues := r.queues.set c [], transmitter := if r.transmitter = .frame c then .idle else r.transmitter
    storm := (emptiedPort s c r).storm } := by
  unfold emptiedPort
  rw [stormSync_eq]

section Laws
variable {now : Nat} {q : PauseSettings} {r r' : Port}

/-! ### Quiet ports (R131, R157) -/

theorem portQuiet_congr (hl : r'.link = r.link) (hq : r'.queues = r.queues) (hc : r'.c2State = r.c2State)
    (h : portQuiet r) : portQuiet r' := by
  unfold portQuiet
  rw [hl, hq, hc]
  exact h

theorem portQuiet_event {budget : Nat} (h : PortEvent now q budget r r') (hr : portQuiet r) :
    portQuiet r' := by
  obtain ⟨hempty, hstall⟩ := hr
  cases h
  case lane => exact ⟨hempty, hstall⟩
  case entersUp =>
    rw [Port.pauseOnTest_eq]
    exact ⟨fun h => by simp at h, hstall⟩
  case entersProving h =>
    exact ⟨fun _ => hempty (h.imp_right .inl), hstall⟩
  case idles h _ => exact ⟨fun _ => hempty (h.imp_right .inl), hstall⟩
  case pauseReceived d =>
    rw [Port.stormSync_eq, pauseReceived_eq]
    refine ⟨hempty, fun h => hstall ?_⟩
    change (r.pauseReceived d now).c2State = .stalled at h
    unfold Port.pauseReceived at h
    split at h
    · exact h
    · split at h
      · exact h
      · cases h
    · split at h
      · cases h
      · exact h
  case pauseExpires =>
    rw [Port.stormSync_eq]
    exact ⟨hempty, fun h => nomatch h⟩
  case recovers =>
    refine ⟨hempty, fun h => hstall ?_⟩
    change (if r.c2State = .stalled then QState.ready else r.c2State) = .stalled at h
    split at h
    · cases h
    · exact h
  all_goals exact ⟨hempty, hstall⟩

theorem portQuiet_move (h : PortMove now q r r') (hr : portQuiet r) : portQuiet r' := by
  have hlink (hne : r.link = .up) : ¬(r.link = .down ∨ r.link = .adminDown ∨ r.link = .proving) := by
    simp [hne]
  cases h
  case event he => exact portQuiet_event he hr
  case lowered l => exact portQuiet_congr (by simp) (by simp) (by simp) hr
  case raised n =>
    rw [raisedPort_eq]
    exact hr
  case joined s c hup hstall =>
    rw [joinedPort_eq]
    refine ⟨fun h => absurd h (hlink hup), fun h => ?_⟩
    have hne : Cls.c2 ≠ c.cls := fun hc => hstall hc.symm h
    have hq := PerClass.get_set r.queues c.cls .c2 (r.queues.get c.cls
      ++ [queuedFrame c ((s.tenant c.tenant).state == .draining)])
    rw [if_neg hne, ← joinedPort_queues] at hq
    exact hq.trans (hr.2 h)
  case starts c i n hdue hch =>
    refine ⟨fun h => absurd h (hlink (link_of_startDue hdue)), fun h => ?_⟩
    have hne : Cls.c2 ≠ c := by
      rintro rfl
      exact nomatch (ready_of_startable (startable_of_startChoice hch)).symm.trans h
    have hq := PerClass.get_set r.queues c .c2 (markHead n (r.queues.get c))
    rw [if_neg hne] at hq
    exact hq.trans (hr.2 h)
  case completes s c f rest ht hq =>
    rw [stormSync_eq]
    refine ⟨fun h => ?_, fun h => ?_⟩
    · have := hr.1 h
      rw [this] at hq
      cases c <;> cases hq
    · have hne : Cls.c2 ≠ c := by
        rintro rfl
        exact nomatch hq.symm.trans (hr.2 h)
      have hget := PerClass.get_set r.queues c .c2 rest
      rw [if_neg hne] at hget
      exact hget.trans (hr.2 h)
  case suspects s e hup =>
    refine ⟨fun h => ?_, fun h => ?_⟩
    · rw [leftUpPort_eq] at h
      simp at h
    · rw [leftUpPort_eq] at h
      exact abortedPort_queue_nil s (c := .c2) (hr.2 h)
  case falls hf => exact ⟨fun _ => hf.queues, fun h => nomatch hf.c2.1.symm.trans h⟩
  case storms s =>
    rw [emptiedPort_eq]
    refine ⟨fun h => ?_, fun _ => rfl⟩
    have hq := hr.1 h
    show r.queues.set .c2 [] = _
    rw [hq]
    rfl
  case recovery => exact hr
  case retested =>
    rw [retestedPort_eq]
    exact hr

/-! ### Timers (R134, R140, R143, R150) -/

theorem portTimed_event {budget : Nat} (h : PortEvent now q budget r r') (hr : portTimed r) :
    portTimed r' := by
  obtain ⟨hdebounce, hhold, hrenew, hpause, hstorm⟩ := hr
  have hnone (l : r.link = .down ∨ r.link = .adminDown) :
      r.debounceEnd = none ∧ r.holdDownEnd = none := by
    constructor
    · rw [← Option.not_isSome_iff_eq_none, hdebounce]
      rcases l with l | l <;> simp [l]
    · rw [← Option.not_isSome_iff_eq_none, hhold]
      rcases l with l | l <;> simp [l]
  cases h
  case lane => exact ⟨hdebounce, hhold, hrenew, hpause, hstorm⟩
  case entersUp l _ =>
    have ht := pauseOnTest_renewal (q := q) (now := now)
      (r := { r with lane := l, link := .up, debounceEnd := none, holdDownEnd := none }) hrenew
    rw [Port.pauseOnTest_eq]
    exact ⟨by simp, by simp, ht, hpause, hstorm⟩
  case entersProving l =>
    exact ⟨by simp [(hnone l).1], by simp, hrenew, hpause, hstorm⟩
  case idles l hl =>
    refine ⟨?_, ?_, hrenew, hpause, hstorm⟩
    · rcases hl with rfl | rfl <;> simp [(hnone l).1]
    · rcases hl with rfl | rfl <;> simp [(hnone l).2]
  case pauseReceived d =>
    have hruns := Port.stormSync_runs (r.pauseReceived d now) budget now
    have hends : (r.pauseReceived d now).pauseEnd.isSome = true
        ↔ (r.pauseReceived d now).c2State = .paused := by
      unfold Port.pauseReceived
      split
      · exact hpause
      · split
        · exact hpause
        · simp
      · split
        · simp
        · next hc _ => simp [hc]
    rw [Port.stormSync_eq, pauseReceived_eq]
    rw [pauseReceived_eq] at hruns
    exact ⟨hdebounce, hhold, hrenew, hends, hruns⟩
  case pauseExpires =>
    rw [Port.stormSync_eq]
    exact ⟨hdebounce, hhold, hrenew, by simp,
      Port.stormSync_runs { r with c2State := .ready, pauseEnd := none } budget now⟩
  case recovers =>
    have hc : (if r.c2State = .stalled then QState.ready else r.c2State) = .paused ↔ r.c2State = .paused := by
      split
      · next h => simp [h]
      · rfl
    exact ⟨hdebounce, hhold, hrenew, hpause.trans hc.symm, hstorm.trans (and_congr_left fun _ => hc.symm)⟩
  case renews h => exact ⟨hdebounce, hhold, by simp [h, Port.placePause], hpause, hstorm⟩
  all_goals exact ⟨hdebounce, hhold, hrenew, hpause, hstorm⟩

theorem loweredPort_renewal {l : List QFrame} (h : r.renewal.isSome = true ↔ r.ingress = .pausing) :
    (loweredPort q l r).renewal.isSome = true ↔ (loweredPort q l r).ingress = .pausing := by
  unfold loweredPort
  split
  · exact h
  · exact pauseOffTest_renewal h

theorem portTimed_move (h : PortMove now q r r') (hr : portTimed r) : portTimed r' := by
  obtain ⟨hdebounce, hhold, hrenew, hpause, hstorm⟩ := hr
  cases h
  case event he => exact portTimed_event he ⟨hdebounce, hhold, hrenew, hpause, hstorm⟩
  case lowered l =>
    refine ⟨by simpa using hdebounce, by simpa using hhold, loweredPort_renewal hrenew, by simpa using hpause,
      by simpa using hstorm⟩
  case raised n =>
    have ht := pauseOnTest_renewal (q := q) (now := now)
      (r := { r with losslessCount := r.losslessCount + n }) hrenew
    rw [raisedPort_eq]
    exact ⟨hdebounce, hhold, ht, hpause, hstorm⟩
  case joined s c _ _ =>
    have hruns := Port.stormSync_runs { r with queues := r.queues.set c.cls (r.queues.get c.cls
      ++ [queuedFrame c ((s.tenant c.tenant).state == .draining)]) } s.linkSettings.stormBudget s.timebase
    rw [joinedPort_eq, joinedPort_queues]
    exact ⟨hdebounce, hhold, hrenew, hpause, hruns⟩
  case starts c i n _ _ =>
    refine ⟨hdebounce, hhold, hrenew, hpause, hstorm.trans (and_congr_right fun _ => not_congr ?_)⟩
    have hget := PerClass.get_set r.queues c .c2 (markHead n (r.queues.get c))
    change r.queues.c2 = [] ↔ (r.queues.set c (markHead n (r.queues.get c))).get .c2 = []
    rw [hget]
    split
    · next hc => rw [markHead_eq_nil, ← hc]; rfl
    · rfl
  case completes s c f rest _ _ =>
    have hruns := Port.stormSync_runs
      { r with queues := r.queues.set c rest, transmitter := .idle } s.linkSettings.stormBudget s.timebase
    rw [stormSync_eq]
    exact ⟨hdebounce, hhold, hrenew, hpause, hruns⟩
  case suspects s e hup =>
    have hruns := abortedPort_storm s
      (r := ({ r with lane := .lost, debounceEnd := some e, link := .suspect } : Port).ingressCleared) hstorm
    have hhold' : r.holdDownEnd = none := by
      rw [← Option.not_isSome_iff_eq_none, hhold, hup]
      simp
    rw [leftUpPort_eq]
    exact ⟨by simp, by simp [hhold'], by simp, hpause, hruns⟩
  case falls hf =>
    have hnone (hup : r.link = .up) : r.debounceEnd = none ∧ r.holdDownEnd = none := by
      constructor
      · rw [← Option.not_isSome_iff_eq_none, hdebounce, hup]; simp
      · rw [← Option.not_isSome_iff_eq_none, hhold, hup]; simp
    have hd : r'.debounceEnd = none := hf.debounceEnd.elim id fun ⟨hup, h⟩ => h.trans (hnone hup).1
    have hh : r'.holdDownEnd = none := hf.holdDownEnd.elim id fun ⟨hup, h⟩ => h.trans (hnone hup).2
    obtain ⟨hi, hn⟩ := hf.ingress
    obtain ⟨hc, hp, hs⟩ := hf.c2
    refine ⟨?_, ?_, by simp [hi, hn], by simp [hc, hp], by simp [hc, hs]⟩
    · rcases hf.link with h | h <;> simp [h, hd]
    · rcases hf.link with h | h <;> simp [h, hh]
  case storms s =>
    rw [emptiedPort_eq]
    exact ⟨hdebounce, hhold, hrenew, by simp [Port.stalled],
      Port.stormSync_runs { r.stalled with
        queues := r.stalled.queues.set .c2 []
        transmitter := if r.stalled.transmitter = .frame .c2 then .idle else r.stalled.transmitter }
        s.linkSettings.stormBudget s.timebase⟩
  case recovery => exact ⟨hdebounce, hhold, hrenew, hpause, hstorm⟩
  case retested =>
    have ht : (retestedPort q now r).renewal.isSome = true ↔ (retestedPort q now r).ingress = .pausing := by
      unfold retestedPort
      split
      · exact pauseOnTest_renewal hrenew
      · exact pauseOffTest_renewal hrenew
    rw [retestedPort_eq]
    exact ⟨hdebounce, hhold, ht, hpause, hstorm⟩

/-! ### Transmitters (R120, R127, R138) -/

theorem portSends_congr (ht : r'.transmitter = r.transmitter) (hl : r'.link = r.link)
    (hq : r'.queues = r.queues) (h : portSends r) : portSends r' := by
  unfold portSends
  rw [ht, hl, hq]
  exact h

theorem portSends_idle (h : r.transmitter = .idle) : portSends r :=
  ⟨fun hne => absurd h hne, fun _ hc => nomatch h.symm.trans hc⟩

theorem idle_of_not_up (hr : portSends r) (h : r.link ≠ .up) : r.transmitter = .idle :=
  Classical.byContradiction fun hne => h (hr.1 hne)

theorem portSends_event {budget : Nat} (h : PortEvent now q budget r r') (hr : portSends r) :
    portSends r' := by
  have hdown (h : r.link = .down ∨ r.link = .adminDown) : r.transmitter = .idle :=
    idle_of_not_up hr fun hup => by rcases h with h | h <;> exact nomatch hup.symm.trans h
  cases h
  case entersUp =>
    rw [Port.pauseOnTest_eq]
    exact ⟨fun _ => rfl, hr.2⟩
  case entersProving h => exact portSends_idle (hdown h)
  case idles h _ => exact portSends_idle (hdown h)
  case pauseReceived =>
    rw [Port.stormSync_eq, pauseReceived_eq]
    exact hr
  case pauseExpires =>
    rw [Port.stormSync_eq]
    exact hr
  case sendsControl hdue =>
    simp only [Port.controlDue, Bool.and_eq_true, beq_iff_eq] at hdue
    exact ⟨fun _ => hdue.1.2, fun c hc => nomatch hc⟩
  case endsControl => exact portSends_idle rfl
  all_goals exact hr

theorem portSends_move (h : PortMove now q r r') (hr : portSends r) : portSends r' := by
  cases h
  case event he => exact portSends_event he hr
  case lowered l => exact portSends_congr (by simp) (by simp) (by simp) hr
  case raised n =>
    rw [raisedPort_eq]
    exact hr
  case joined s c hup _ =>
    have hq := joinedPort_queues s c r
    rw [joinedPort_eq]
    refine ⟨fun _ => hup, fun d hd => ?_⟩
    show (joinedPort s c r).queues.get d ≠ []
    rw [hq, PerClass.get_set]
    split
    · simp
    · exact hr.2 d hd
  case starts c i n hdue hch =>
    have hup : r.link = .up := link_of_startDue hdue
    refine ⟨fun _ => hup, fun d hd => ?_⟩
    cases hd
    show (r.queues.set c (markHead n (r.queues.get c))).get c ≠ []
    rw [PerClass.get_set, if_pos rfl, Ne, markHead_eq_nil]
    exact queue_ne_nil_of_startable (startable_of_startChoice hch)
  case completes s c f rest _ _ => exact portSends_idle (stormSync_transmitter s _)
  case suspects s e _ => exact portSends_idle (by rw [leftUpPort_eq])
  case falls hf =>
    refine portSends_idle (hf.transmitter.elim id fun ⟨hup, h⟩ => ?_)
    rw [h, idle_of_not_up hr hup]
    rfl
  case storms s =>
    rw [emptiedPort_eq]
    by_cases hc : r.transmitter = .frame .c2
    · exact portSends_idle (if_pos hc)
    · refine ⟨fun h => hr.1 ?_, fun d hd => ?_⟩
      · change (if r.transmitter = .frame .c2 then Transmitter.idle else r.transmitter) ≠ .idle at h
        rwa [if_neg hc] at h
      · change (if r.transmitter = .frame .c2 then Transmitter.idle else r.transmitter) = .frame d at hd
        rw [if_neg hc] at hd
        have hne : d ≠ .c2 := by
          rintro rfl
          exact hc hd
        show (r.queues.set .c2 []).get d ≠ []
        rw [PerClass.get_set, if_neg hne]
        exact hr.2 d hd
  case recovery => exact hr
  case retested =>
    rw [retestedPort_eq]
    exact hr

/-! ### Pauses (R135, R137) -/

/-- R137: the count of a PAUSING port lies above pause-off. -/
def pausesAbove (q : PauseSettings) (r : Port) : Prop := r.ingress = .pausing → q.pauseOff < r.losslessCount

theorem pausesAbove_pauseOnTest (hq : q.pauseOff < q.pauseOn) (hr : pausesAbove q r) :
    pausesAbove q (r.pauseOnTest q now) := by
  unfold Port.pauseOnTest
  split
  · next h => exact fun _ => Nat.lt_of_lt_of_le hq h.2.2
  · exact hr

theorem pausesAbove_pauseOffTest : pausesAbove q (r.pauseOffTest q) := by
  unfold Port.pauseOffTest
  split
  · exact fun h => nomatch h
  · next h => exact fun hp => Nat.not_le.mp fun hle => h ⟨hp, hle⟩

/-- R148: the test brings the port under the law of the settings it is tested against. -/
theorem pausesAbove_retested (hq : q.pauseOff < q.pauseOn) : pausesAbove q (retestedPort q now r) := by
  unfold retestedPort
  split
  · next h => exact pausesAbove_pauseOnTest hq fun hp => nomatch h.symm.trans hp
  · exact pausesAbove_pauseOffTest

theorem pausesAbove_event {budget : Nat} (hq : q.pauseOff < q.pauseOn) (h : PortEvent now q budget r r')
    (hr : pausesAbove q r) : pausesAbove q r' := by
  cases h
  case entersUp => exact pausesAbove_pauseOnTest hq hr
  case pauseReceived =>
    rw [Port.stormSync_eq, pauseReceived_eq]
    exact hr
  case pauseExpires =>
    rw [Port.stormSync_eq]
    exact hr
  all_goals exact hr

theorem pausesAbove_move (hq : q.pauseOff < q.pauseOn) (h : PortMove now q r r') (hr : pausesAbove q r) :
    pausesAbove q r' := by
  cases h
  case event he => exact pausesAbove_event hq he hr
  case lowered l =>
    unfold loweredPort
    split
    · exact hr
    · exact pausesAbove_pauseOffTest
  case raised n =>
    exact pausesAbove_pauseOnTest hq fun hp => Nat.lt_of_lt_of_le (hr hp) (Nat.le_add_right _ n)
  case joined =>
    rw [joinedPort_eq]
    exact hr
  case starts => exact hr
  case completes =>
    rw [stormSync_eq]
    exact hr
  case suspects =>
    rw [leftUpPort_eq]
    exact fun h => nomatch h
  case falls hf => exact fun h => nomatch hf.ingress.1.symm.trans h
  case storms =>
    rw [emptiedPort_eq]
    exact hr
  case recovery => exact hr
  case retested => exact pausesAbove_retested hq

/-! ### Flap histories (R158) -/

/-- R158: an append keeps at most eight entries in time order, none later than now. -/
theorem flapsSound_flapAppend {l : List Nat} (w : Nat) (h : flapsSound now l) :
    flapsSound now (flapAppend l now w) := by
  obtain ⟨-, hsorted, hle⟩ := h
  refine ⟨flapAppend_length l now w, ?_, fun x hx => ?_⟩
  · refine List.Pairwise.sublist (List.drop_sublist _ _) (List.pairwise_append.mpr ⟨hsorted.filter _, ?_, ?_⟩)
    · exact List.pairwise_singleton _ _
    · intro a ha b hb
      rw [List.mem_singleton.mp hb]
      exact hle a (List.mem_of_mem_filter ha)
  · rcases mem_flapAppend hx with rfl | hx
    · exact Nat.le_refl _
    · exact hle x hx

theorem portEvent_flapHistory {budget : Nat} (h : PortEvent now q budget r r') :
    r'.flapHistory = r.flapHistory := by
  cases h
  case entersUp => rw [Port.pauseOnTest_eq]
  case pauseReceived => rw [Port.stormSync_eq, pauseReceived_eq]
  case pauseExpires => rw [Port.stormSync_eq]
  all_goals rfl

theorem flapsSound_move (h : PortMove now q r r') (hr : flapsSound now r.flapHistory) :
    flapsSound now r'.flapHistory := by
  cases h
  case event he => rw [portEvent_flapHistory he]; exact hr
  case lowered l => rw [loweredPort_flapHistory]; exact hr
  case raised n => rw [raisedPort_eq]; exact hr
  case joined => rw [joinedPort_eq]; exact hr
  case starts => exact hr
  case completes => rw [stormSync_flapHistory]; exact hr
  case suspects => rw [leftUpPort_eq]; exact hr
  case falls hf =>
    rcases hf.flaps with h | ⟨w, h⟩
    · rw [h]; exact hr
    · rw [h]; exact flapsSound_flapAppend w hr
  case storms => rw [emptiedPort_eq]; exact hr
  case recovery => exact hr
  case retested => rw [retestedPort_eq]; exact hr

/-- What every move keeps, moves in turn keep. -/
theorem moves_keep {P : Port → Prop} (hmove : ∀ {r r'}, PortMove now q r r' → P r → P r')
    (h : PortMoves now q r r') (hr : P r) : P r' := by
  induction h with
  | refl => exact hr
  | tail _ hm ih => exact hmove hm ih

end Laws

/-! ### The laws of the ports -/

/-- A law of each port's record that holds of the power-on record and is kept by every move. -/
theorem law_of_ports {P : Port → Prop} (hreset : P powerOnPort)
    (hmove : ∀ {now q r r'}, PortMove now q r r' → P r → P r') {s t : State}
    (hs : ∀ p, P (s.port p)) (h : step s = .next t) : ∀ p, P (t.port p) := by
  refine law_of_effects (P := fun s => ∀ p, P (s.port p)) (fun hsame hs p => ?_) (fun {s t} heff hs p => ?_)
    hs h
  · rw [hsame.port]
    exact hs p
  · by_cases hpower : ∃ l, t = { State.reset with pending := l }
    · obtain ⟨l, rfl⟩ := hpower
      exact hreset
    · exact moves_keep hmove (portMoves_of_effect heff (fun l hl => hpower ⟨l, hl⟩) p) (hs p)

theorem portQuiet_powerOn : portQuiet powerOnPort := ⟨fun _ => rfl, fun _ => rfl⟩

theorem portTimed_powerOn : portTimed powerOnPort := by unfold portTimed; decide

theorem portSends_powerOn : portSends powerOnPort := portSends_idle rfl

/-- Settles O55: no move of a port brings a frame to a port that is not UP or SUSPECT, or to a STALLED queue. -/
theorem everyStepKeepsQuietPortsEmpty : Obligations.EveryStepKeepsQuietPortsEmpty := by
  unfold Obligations.EveryStepKeepsQuietPortsEmpty PortsQuiet
  exact fun s t hs h => law_of_ports portQuiet_powerOn portQuiet_move hs h

theorem pausesSound_pauseWrite {s : State} {k : PortKind} {q : PauseSettings} (hq : q.pauseOff < q.pauseOn)
    (hs : PausesSound s) :
    PausesSound ((portsOfKind k).foldl retestPort { s with pauseSettings := s.pauseSettings.set k q }) := by
  obtain ⟨hset, hports⟩ := hs
  have heq := retestPorts_eq (s := { s with pauseSettings := s.pauseSettings.set k q }) (portsOfKind k)
  have hsettings := congrArg State.pauseSettings heq
  change _ = s.pauseSettings.set k q at hsettings
  refine ⟨fun j => ?_, fun p hp => ?_⟩
  · rw [hsettings, PerKind.get_set]
    split
    · exact hq
    · exact hset j
  · unfold State.pauseOf
    rw [hsettings, PerKind.get_set, retestPorts_port _ (portsOfKind_nodup k)]
    by_cases hk : kindOfPort p = k
    · rw [if_pos hk, if_pos (mem_portsOfKind.mpr ⟨hp, hk⟩)]
      have hof : State.pauseOf { s with pauseSettings := s.pauseSettings.set k q } p = q := by
        unfold State.pauseOf
        rw [PerKind.get_set, if_pos hk]
      rw [hof]
      exact pausesAbove_retested hq
    · rw [if_neg hk, if_neg fun h => hk (mem_portsOfKind.mp h).2]
      exact hports p hp

/-! ### The timebase, the AGING posting and the pause settings under every effect -/

/-- What an effect does to the timebase, to the time of the next AGING posting and to the pause settings. -/
inductive RegisterChange (s t : State) : Prop
  | same (timebase : t.timebase = s.timebase) (nextAging : t.nextAging = s.nextAging)
      (pauseSettings : t.pauseSettings = s.pauseSettings)
  | powerOn (l : List Instr) (h : t = { State.reset with pending := l })
  | time (hdue : s.eventDue = false) (h : t = { s with timebase := s.timebase + 1 })
  | aging (hdue : s.nextAging ≤ s.timebase) (h : t = { s with nextAging := 10000000 + s.nextAging })
  | pauseWrite (k : PortKind) (q : PauseSettings) (hq : q.pauseOff < q.pauseOn)
      (h : t = (portsOfKind k).foldl retestPort { s with pauseSettings := s.pauseSettings.set k q })

theorem registerChange_of_same {s t : State} (h : SameRegisters s t) : RegisterChange s t :=
  .same h.timebase h.nextAging h.pauseSettings

theorem registerChange_of_stationEvent {s t : State} (h : StationEvent s t) : RegisterChange s t := by
  refine .same ?_ ?_ ?_ <;> rw [h.eq]

theorem registerChange {s t : State} (h : Effect s t) : RegisterChange s t := by
  cases h
  case powerOn l => exact .powerOn l rfl
  case time hdue => exact .time hdue rfl
  case aging hdue => exact .aging hdue rfl
  case pauseWrite k q hq => exact .pauseWrite k q hq rfl
  case port p r _ _ ht => exact registerChange_of_same (sameRegisters_of_sameBut ht.toSameBut)
  case join c p _ _ => exact registerChange_of_same (sameRegisters_of_buffer (onlyBuffer_admitCopy s c p))
  case complete p c f rest _ _ _ =>
    exact registerChange_of_same (.trans (sameRegisters_of_buffer (onlyBuffer_setPort s p _))
      (sameRegisters_of_buffer (onlyBuffer_completeFrame _ f)))
  case suspect p e u _ _ hu =>
    exact registerChange_of_same (.trans (sameRegisters_of_sameBut hu.toSameBut)
      (sameRegisters_of_buffer (onlyBuffer_leaveUp u p _)))
  case fall p r u _ _ hu =>
    exact registerChange_of_same (.trans (sameRegisters_of_sameBut hu.toSameBut)
      (sameRegisters_downEffects u p))
  case adminFall p _ _ =>
    exact registerChange_of_same (.trans (sameRegisters_of_buffer (onlyBuffer_leaveUp s p _))
      (sameRegisters_downEffects _ p))
  case storm p _ _ => exact registerChange_of_same (sameRegisters_of_buffer (onlyBuffer_stormExpiry s p))
  case learn u a d hu hopen ha => exact registerChange_of_stationEvent (stationEvent_learn d hu hopen ha)
  case insert u a d hu ha hv hd => exact registerChange_of_stationEvent (stationEvent_insert d hu ha hv hd)
  case stationVisit q _ _ =>
    have hv := stationEvent_visit s q.carried q.position
    refine .same ?_ ?_ ?_
    · show (visitStation q.carried q.position s).timebase = _
      rw [hv.eq]
    · show (visitStation q.carried q.position s).nextAging = _
      rw [hv.eq]
    · show (visitStation q.carried q.position s).pauseSettings = _
      rw [hv.eq]
  case passEnd q _ _ => refine .same ?_ ?_ ?_ <;> rw [endPass_eq]
  all_goals exact .same rfl rfl rfl

theorem pausesSound_effect {s t : State} (h : Effect s t) (hs : PausesSound s) : PausesSound t := by
  have hreset (l : List Instr) : PausesSound { State.reset with pending := l } := by
    have hsettings (k : PortKind) :
        (State.reset.pauseSettings.get k).pauseOff < (State.reset.pauseSettings.get k).pauseOn := by
      cases k <;> decide
    exact ⟨hsettings, fun _ _ h => nomatch h⟩
  cases registerChange h with
  | powerOn l ht => exact ht ▸ hreset l
  | pauseWrite k q hq ht => exact ht ▸ pausesSound_pauseWrite hq hs
  | time _ ht => exact ht ▸ hs
  | aging _ ht => exact ht ▸ hs
  | same _ _ hsettings =>
    by_cases hpower : ∃ l, t = { State.reset with pending := l }
    · obtain ⟨l, rfl⟩ := hpower
      exact hreset l
    · refine ⟨hsettings ▸ hs.1, fun p hp => ?_⟩
      have hmoves := portMoves_of_effect h (fun l hl => hpower ⟨l, hl⟩) p
      rw [pauseOf_congr hsettings] at hmoves ⊢
      exact moves_keep (pausesAbove_move (hs.1 (kindOfPort p))) hmoves (hs.2 p hp)

/-- Settles O56: each move of a port keeps its timers and its transmitter lawful and its pause above pause-off. -/
theorem everyStepKeepsPortsConsistent : Obligations.EveryStepKeepsPortsConsistent := by
  unfold Obligations.EveryStepKeepsPortsConsistent PortsTimed PortsSend
  refine ⟨fun s t hs h => law_of_ports portTimed_powerOn portTimed_move hs h,
    fun s t hs h => law_of_ports portSends_powerOn portSends_move hs h,
    fun s t hs h => law_of_effects (fun hsame hs => ?_) pausesSound_effect hs h⟩
  obtain ⟨hset, hports⟩ := hs
  refine ⟨hsame.pauseSettings ▸ hset, fun p hp => ?_⟩
  rw [pauseOf_congr hsame.pauseSettings, hsame.port]
  exact hports p hp

/-! ### Histories and the AGING posting (R158, R38) -/

theorem flapsSound_mono {now now' : Nat} {l : List Nat} (hle : now ≤ now') (h : flapsSound now l) :
    flapsSound now' l := ⟨h.1, h.2.1, fun x hx => Nat.le_trans (h.2.2 x hx) hle⟩

theorem flapsSound_effect {s t : State} (h : Effect s t) (hs : FlapsSound s) : FlapsSound t := by
  intro p
  by_cases hpower : ∃ l, t = { State.reset with pending := l }
  · obtain ⟨l, rfl⟩ := hpower
    exact ⟨Nat.zero_le _, .nil, fun x hx => nomatch hx⟩
  · have hmoves := portMoves_of_effect h (fun l hl => hpower ⟨l, hl⟩) p
    have hflaps := moves_keep (P := fun r => flapsSound s.timebase r.flapHistory) flapsSound_move hmoves
      (hs p)
    refine flapsSound_mono ?_ hflaps
    cases registerChange h with
    | powerOn l ht => exact absurd ⟨l, ht⟩ hpower
    | same ht => exact Nat.le_of_eq ht.symm
    | time _ ht => rw [ht]; exact Nat.le_succ _
    | aging _ ht => rw [ht]
    | pauseWrite k q _ ht => rw [ht, retestPorts_eq]

/-- The AGING posting that is due stops the timebase (log entry 3). -/
theorem timebase_lt_nextAging {s : State} (h : s.eventDue = false) : s.timebase < s.nextAging := by
  unfold State.eventDue at h
  simp only [Bool.or_eq_false_iff, decide_eq_false_iff_not] at h
  omega

theorem agingSound_reset (l : List Instr) : AgingSound { State.reset with pending := l } := by
  unfold AgingSound
  have hnow : ({ State.reset with pending := l } : State).timebase = 0 := rfl
  have hnext : ({ State.reset with pending := l } : State).nextAging = 10000000 := rfl
  rw [hnow, hnext]
  omega

theorem agingSound_effect {s t : State} (h : Effect s t) (hs : AgingSound s) : AgingSound t := by
  obtain ⟨hpos, hdvd, hle, hahead⟩ := hs
  cases registerChange h with
  | powerOn l ht =>
    subst ht
    exact agingSound_reset l
  | same ht hn =>
    unfold AgingSound
    rw [ht, hn]
    exact ⟨hpos, hdvd, hle, hahead⟩
  | time hdue ht =>
    have := timebase_lt_nextAging hdue
    subst ht
    refine ⟨hpos, hdvd, this, ?_⟩
    show s.nextAging ≤ s.timebase + 1 + 10000000
    omega
  | aging hdue ht =>
    subst ht
    exact ⟨by simp only; omega, by simp only; omega, by simp only; omega, by simp only; omega⟩
  | pauseWrite k q _ ht =>
    rw [ht]
    unfold AgingSound
    rw [retestPorts_eq]
    exact ⟨hpos, hdvd, hle, hahead⟩

end Sys2Proof.Proofs.PortLaws

/-! The tenant records one by one under every effect (`TenantMove`), the profiles, and the request engine; the
laws of O57 and O58. -/

namespace Sys2Proof.Proofs.TenantLaws

open Sys2Proof Sys2Proof.Machine Sys2Proof.Safety Sys2Proof.Proofs.Outcomes Sys2Proof.Proofs.Ports
  Sys2Proof.Proofs.Effects Sys2Proof.Proofs.Stations Sys2Proof.Proofs.Buffer Sys2Proof.Proofs.PortLaws

/-! ### The moves of a tenant record -/

/-- The elementary changes of a tenant record that leave its station count; `purging` says whether its purge
is outstanding. -/
inductive TenantMove (purging : Bool) (r : Tenant) : Tenant → Prop
  | inBuffer (n : Nat) (h : r.state ≠ .vacant ∨ n ≤ r.inBuffer) :
      TenantMove purging r { r with inBuffer := n }
  | vacant (h : r.state = .draining) (hdone : purging = false) : TenantMove purging r vacantTenant
  | charged (product : Nat) (c : Cls) (len : Nat) (h : r.state.inContract = true) :
      TenantMove purging r (chargeRecord r product c len).record
  | event {r' : Tenant} (h : TenantEvent r r') : TenantMove purging r r'

/-- Moves in turn. -/
abbrev TenantMoves (purging : Bool) : Tenant → Tenant → Prop := Relation.ReflTransGen (TenantMove purging)

theorem TenantMove.once {b : Bool} {r r' : Tenant} (h : TenantMove b r r') : TenantMoves b r r' := .single h

theorem tenantMoves_of_eq {b : Bool} {r r' : Tenant} (h : r' = r) : TenantMoves b r r' := h ▸ .refl

theorem purgeOutstanding_buffer {s t : State} (h : OnlyBufferChanged s t) (u : Nat) :
    t.purgeOutstanding u = s.purgeOutstanding u := by
  rw [h]
  rfl

theorem purgeOutstanding_congr {s t : State} (hjobs : t.jobs.tenants = s.jobs.tenants) (hpass : t.pass = s.pass)
    (u : Nat) : t.purgeOutstanding u = s.purgeOutstanding u := by
  unfold State.purgeOutstanding State.carried
  rw [hjobs, hpass]

section Operations
variable (s : State) (u : Nat)

theorem tenantMoves_releaseFrames (l : List QFrame) :
    TenantMoves (s.purgeOutstanding u) (s.tenant u) ((l.foldl (fun s f => releaseFrame f s) s).tenant u) := by
  rw [releaseFrames_tenant]
  split
  · next h => exact (TenantMove.vacant h.2.1 h.2.2.2).once
  · exact (TenantMove.inBuffer _ (.inr (Nat.sub_le _ _))).once

theorem tenantMoves_releaseFrame (f : QFrame) :
    TenantMoves (s.purgeOutstanding u) (s.tenant u) ((releaseFrame f s).tenant u) :=
  tenantMoves_releaseFrames s u [f]

theorem tenantMoves_flushQueue (p : Nat) (c : Cls) :
    TenantMoves (s.purgeOutstanding u) (s.tenant u) ((flushQueue p c s).tenant u) :=
  tenantMoves_releaseFrames (s.setPort p (emptiedPort s c (s.port p))) u (s.queue p c)

theorem tenantMoves_abortTransmission (p : Nat) :
    TenantMoves (s.purgeOutstanding u) (s.tenant u) ((abortTransmission p s).tenant u) := by
  rcases abortTransmission_cases s p with ⟨c, f, rest, -, -, h⟩ | ⟨-, -, -, h | ⟨-, h⟩⟩
  · have hmoves := tenantMoves_releaseFrame (s.setPort p (abortedPort s (s.port p))) u f
    rw [State.setPort_tenant] at hmoves
    rw [h]
    exact hmoves
  · rw [h, State.setPort_tenant]
  · rw [h]

theorem tenantMoves_leaveUp (p : Nat) (l : LinkState) :
    TenantMoves (s.purgeOutstanding u) (s.tenant u) ((leaveUp p l s).tenant u) := by
  have h := tenantMoves_abortTransmission (s.setPort p { s.port p with link := l }.ingressCleared) u p
  rw [State.setPort_tenant] at h
  exact h

theorem tenantMoves_flushAll (p : Nat) :
    TenantMoves (s.purgeOutstanding u) (s.tenant u) ((flushAll p s).tenant u) := by
  have h0 := tenantMoves_flushQueue s u p .c0
  have h1 := tenantMoves_flushQueue (flushQueue p .c0 s) u p .c1
  have h2 := tenantMoves_flushQueue (flushQueue p .c1 (flushQueue p .c0 s)) u p .c2
  have h3 := tenantMoves_flushQueue (flushQueue p .c2 (flushQueue p .c1 (flushQueue p .c0 s))) u p .c3
  simp only [purgeOutstanding_buffer (onlyBuffer_flushQueue _ p _)] at h1 h2 h3
  exact ((h0.trans h1).trans h2).trans h3

theorem downEffects_tenant (p : Nat) : (downEffects p s).tenant u = (flushAll p s).tenant u := by
  have hpost (b : Prop) [Decidable b] (v : State) :
      (if b then postFlush p v else v).tenant u = v.tenant u := by
    split <;> rfl
  unfold downEffects flushAll
  dsimp only
  rw [hpost, pend_tenant, State.setPort_tenant]

theorem tenantMoves_downEffects (p : Nat) :
    TenantMoves (s.purgeOutstanding u) (s.tenant u) ((downEffects p s).tenant u) := by
  rw [downEffects_tenant]
  exact tenantMoves_flushAll s u p

theorem tenantMoves_stormExpiry (p : Nat) :
    TenantMoves (s.purgeOutstanding u) (s.tenant u) ((stormExpiry p s).tenant u) := by
  unfold stormExpiry
  split
  · unfold startRecovery
    rw [State.setPort_tenant, pend_tenant]
    exact tenantMoves_flushQueue (s.setPort p (s.port p).stalled) u p .c2
  · exact .refl

theorem tenantMoves_lowerInBuffer (x : Nat) :
    TenantMoves (s.purgeOutstanding u) (s.tenant u) ((lowerInBuffer x s).tenant u) := by
  rw [lowerInBuffer_tenant]
  split
  · next h =>
    subst h
    split
    · next h => exact (TenantMove.vacant h.1 h.2.2).once
    · exact (TenantMove.inBuffer _ (.inr (Nat.sub_le _ _))).once
  · exact .refl

theorem tenantMoves_chargeCheck (b : Bool) (f : QFrame) :
    TenantMoves b (s.tenant u) ((chargeCheck f s).tenant u) := by
  unfold chargeCheck
  split
  · next h =>
    rw [chargeFrame_tenant]
    split
    · next hu =>
      subst hu
      exact (TenantMove.charged _ _ _ (Bool.and_eq_true_iff.mp h).2).once
    · exact .refl
  · exact .refl

theorem tenantMoves_completeFrame (f : QFrame) :
    TenantMoves (s.purgeOutstanding u) (s.tenant u) ((completeFrame f s).tenant u) := by
  unfold completeFrame
  rw [lowerLossless_eq]
  exact .trans (tenantMoves_lowerInBuffer (returnCells f s) u f.tenant) (tenantMoves_chargeCheck _ u _ f)

theorem tenantMoves_admitCopy (b : Bool) {c : Copy} {p : Nat} (h : s.admits c p = true) :
    TenantMoves b (s.tenant u) ((admitCopy c p s).tenant u) := by
  simp only [State.admits, Bool.and_eq_true, Bool.not_eq_true', beq_eq_false_iff_ne] at h
  unfold admitCopy takeRoom
  rw [raiseLossless_eq]
  show TenantMoves _ _ (State.tenant (State.setTenant _ c.tenant _) u)
  rw [State.tenant_set]
  split
  · next hu =>
    subst hu
    exact (TenantMove.inBuffer _ (.inl h.2)).once
  · exact .refl

theorem tenantMoves_becomeVacantIfDone (x : Nat) :
    TenantMoves (s.purgeOutstanding u) (s.tenant u) ((becomeVacantIfDone x s).tenant u) := by
  rw [becomeVacantIfDone_tenant]
  split
  · next h =>
    obtain ⟨rfl, hd, -, hdone⟩ := h
    exact (TenantMove.vacant hd hdone).once
  · exact .refl

/-- R172: at the pass end the carried purges are no longer outstanding. -/
theorem tenantMoves_endPass (j : Jobs) :
    TenantMoves (State.purgeOutstanding { s with pass := none } u) (s.tenant u) ((endPass j s).tenant u) := by
  have hfold (l : NatSet) (v : State) : TenantMoves (v.purgeOutstanding u) (v.tenant u)
      ((l.foldl (fun s x => becomeVacantIfDone x s) v).tenant u) := by
    induction l generalizing v with
    | nil => exact .refl
    | cons x rest ih =>
      have hrest := ih (becomeVacantIfDone x v)
      rw [purgeOutstanding_congr (s := v) (by rw [becomeVacantIfDone_eq]) (by rw [becomeVacantIfDone_eq])]
        at hrest
      exact .trans (tenantMoves_becomeVacantIfDone v u x) hrest
  have hpend (k : NoticeKind) (l : NatSet) (v : State) : (pendAll k l v).tenant u = v.tenant u
      ∧ (pendAll k l v).purgeOutstanding u = v.purgeOutstanding u := by
    rw [pendAll_eq]
    exact ⟨rfl, rfl⟩
  have h := hfold j.tenants (pendAll .rebalanceDone j.sets (pendAll .flushDone j.ports { s with pass := none }))
  rw [(hpend _ _ _).1, (hpend _ _ _).1, (hpend _ _ _).2, (hpend _ _ _).2] at h
  exact h

end Operations

/-! ### The effects on the tenants and on the station table -/

/-- The effects, by what they do to the tenants, the station table and the purges. -/
inductive TenantEffect (s : State) : State → Prop
  | powerOn (l : List Instr) : TenantEffect s { State.reset with pending := l }
  | moves {t : State}
      (hmoves : ∀ u, TenantMoves (s.purgeOutstanding u) (s.tenant u) (t.tenant u))
      (hstation : ∀ i, t.station i = s.station i) (hpurges : t.jobs.tenants = s.jobs.tenants)
      (hpass : t.pass = s.pass) : TenantEffect s t
  | retire (x : Nat) (h : (s.tenant x).state.inContract = true) :
      TenantEffect s ((postPurge x s).setTenant x { s.tenant x with state := .draining })
  | written {t : State} (h : EntryWritten s t) : TenantEffect s t
  | remove (i : Nat) (e : Entry) (h : s.station i = some e) (hi : i < 16384) :
      TenantEffect s (removeEntry i e s)
  | passStart (h : s.pass = none) :
      TenantEffect s { s with
        jobs := noJobs, pass := some { carried := s.jobs, phase := .stations, position := 0 } }
  | stationVisit (q : Pass) (h : s.pass = some q) (hq : q.phase = .stations) :
      TenantEffect s { visitStation q.carried q.position s with pass := some q.afterStation }
  | pinVisit (q : Pass) (h : s.pass = some q) (hq : q.phase = .pins) :
      TenantEffect s { s with pass := some { q with position := q.position + 1 } }
  | passEnd (q : Pass) (h : s.pass = some q) (hq : q.finished = true) : TenantEffect s (endPass q.carried s)

theorem tenantEffect_of_registers {s t : State}
    (hmoves : ∀ u, TenantMoves (s.purgeOutstanding u) (s.tenant u) (t.tenant u)) (h : SameRegisters s t) :
    TenantEffect s t := .moves hmoves h.station h.purges h.pass

theorem tenantMoves_setTenant {s : State} {x : Nat} {r : Tenant} (u : Nat)
    (h : TenantMove (s.purgeOutstanding x) (s.tenant x) r) :
    TenantMoves (s.purgeOutstanding u) (s.tenant u) ((s.setTenant x r).tenant u) := by
  rw [State.tenant_set]
  split
  · next hu =>
    subst hu
    exact h.once
  · exact .refl

theorem tenantEffect {s t : State} (h : Effect s t) : TenantEffect s t := by
  cases h
  case powerOn l => exact .powerOn l
  case retire x hc => exact .retire x hc
  case passStart h => exact .passStart h
  case stationVisit q h hq => exact .stationVisit q h hq
  case pinVisit q h hq => exact .pinVisit q h hq
  case passEnd q h hq => exact .passEnd q h hq
  case learn x a d hx hopen ha => exact .written (entryWritten_learn d hx hopen ha)
  case insert x a d hx ha hv hd => exact .written (entryWritten_insert d hx ha hv hd)
  case remove x a i e hf =>
    obtain ⟨hb, he, -⟩ := findEntry_some hf
    exact .remove i e he (bucketSlot_lt hb)
  case port p r _ _ ht =>
    exact tenantEffect_of_registers (fun u => tenantMoves_of_eq (ht.tenant u))
      (sameRegisters_of_sameBut ht.toSameBut)
  case join c p _ hadm =>
    exact tenantEffect_of_registers (fun u => tenantMoves_admitCopy s u _ hadm)
      (sameRegisters_of_buffer (onlyBuffer_admitCopy s c p))
  case complete p c f rest _ _ _ =>
    exact tenantEffect_of_registers (fun u => tenantMoves_completeFrame (s.setPort p (s.stormSync
        { s.port p with queues := (s.port p).queues.set c rest, transmitter := .idle })) u f)
      (.trans (sameRegisters_of_buffer (onlyBuffer_setPort s p _))
        (sameRegisters_of_buffer (onlyBuffer_completeFrame _ f)))
  case suspect p e v _ _ hv =>
    refine tenantEffect_of_registers (fun u => ?_) (.trans (sameRegisters_of_sameBut hv.toSameBut)
      (sameRegisters_of_buffer (onlyBuffer_leaveUp v p _)))
    rw [← hv.tenant, ← purgeOutstanding_congr hv.purges hv.pass]
    exact tenantMoves_leaveUp v u p _
  case fall p r v _ _ hv =>
    refine tenantEffect_of_registers (fun u => ?_) (.trans (sameRegisters_of_sameBut hv.toSameBut)
      (sameRegisters_downEffects v p))
    rw [← hv.tenant, ← purgeOutstanding_congr hv.purges hv.pass]
    exact tenantMoves_downEffects v u p
  case adminFall p _ _ =>
    have hleave := onlyBuffer_leaveUp s p .adminDown
    refine tenantEffect_of_registers (fun u => .trans (tenantMoves_leaveUp s u p .adminDown) ?_)
      (.trans (sameRegisters_of_buffer hleave) (sameRegisters_downEffects _ p))
    rw [← purgeOutstanding_buffer hleave]
    exact tenantMoves_downEffects _ u p
  case storm p _ _ =>
    exact tenantEffect_of_registers (fun u => tenantMoves_stormExpiry s u p)
      (sameRegisters_of_buffer (onlyBuffer_stormExpiry s p))
  case pauseWrite k q _ =>
    rw [retestPorts_eq]
    exact .moves (fun _ => .refl) (fun _ => rfl) rfl rfl
  case tenant x r he =>
    exact .moves (fun u => tenantMoves_setTenant u (.event he)) (fun _ => rfl) rfl rfl
  all_goals exact .moves (fun _ => .refl) (fun _ => rfl) rfl rfl

/-- What moves keep, moves in turn keep. -/
theorem tenantMoves_keep {P : Tenant → Prop} {b : Bool} {r r' : Tenant}
    (hmove : ∀ {r r'}, TenantMove b r r' → P r → P r') (h : TenantMoves b r r') (hr : P r) : P r' := by
  induction h with
  | refl => exact hr
  | tail _ hm ih => exact hmove hm ih

/-- A law of each tenant's record that holds of the VACANT record and is kept by every change of a record. -/
theorem law_of_tenants {P : Tenant → Prop} (hvacant : P vacantTenant)
    (hmove : ∀ {b r r'}, TenantMove b r r' → P r → P r')
    (hcount : ∀ {r : Tenant} (n : Nat), r.state ≠ .vacant ∨ n ≤ r.stationCount → P r →
      P { r with stationCount := n })
    (hretire : ∀ {r : Tenant}, P r → P { r with state := .draining })
    {s t : State} (hs : ∀ u, P (s.tenant u)) (h : step s = .next t) : ∀ u, P (t.tenant u) := by
  have hstation {s t : State} (hs : ∀ u, P (s.tenant u)) (h : StationEvent s t) (u : Nat) :
      P (t.tenant u) := by
    cases h
    case written h =>
      cases h
      case none => exact hs u
      case rewrite => exact hs u
      case join i e _ _ _ _ _ _ _ hv _ =>
        rw [State.tenant_set]
        split
        · exact hcount _ (.inl hv) (hs _)
        · exact hs u
    case leave i e _ =>
      rw [removeEntry, State.tenant_set]
      split
      · exact hcount _ (.inr (Nat.sub_le _ _)) (hs _)
      · exact hs u
  refine law_of_effects (P := fun s => ∀ u, P (s.tenant u)) (fun hsame hs u => ?_)
    (fun {s t} heff hs u => ?_) hs h
  · rw [hsame.tenant]
    exact hs u
  · cases tenantEffect heff
    case powerOn => exact hvacant
    case moves hmoves _ _ _ => exact tenantMoves_keep hmove (hmoves u) (hs u)
    case retire x _ =>
      show P ((State.setTenant _ x _).tenant u)
      rw [State.tenant_set]
      split
      · exact hretire (hs x)
      · exact hs u
    case written he => exact hstation hs (.written he) u
    case remove i e he _ => exact hstation hs (.leave i e he) u
    case stationVisit q _ _ => exact hstation hs (stationEvent_visit s q.carried q.position) u
    case passEnd q _ _ => exact tenantMoves_keep hmove (tenantMoves_endPass s u q.carried) (hs u)
    all_goals exact hs u

/-! ### The tenant laws (R3, R18, 1.1) -/

theorem derivedState_open (a o c : Nat) : (derivedState a o c).openForTraffic = true := by
  unfold derivedState
  split
  · rfl
  · split <;> rfl

/-- R3: a record brought to its derived state. -/
theorem tenantSound_rederive {r : Tenant} (h : r.state ≠ .vacant) : tenantSound r.rederive := by
  unfold Tenant.rederive
  split
  · refine ⟨fun _ => rfl, fun hv => ?_⟩
    have hopen := derivedState_open r.allowance r.overage r.ceiling
    change derivedState r.allowance r.overage r.ceiling = .vacant at hv
    rw [hv] at hopen
    cases hopen
  · next hopen => exact ⟨fun h' => absurd h' hopen, fun hv => absurd hv h⟩

theorem not_vacant_of_inContract {x : TenantState} (h : x.inContract = true) : x ≠ .vacant := by
  rintro rfl
  cases h

theorem tenantSound_event {r r' : Tenant} (h : TenantEvent r r') : tenantSound r' := by
  cases h
  case opened =>
    refine ⟨fun _ => rfl, fun hv => ?_⟩
    have hopen := derivedState_open
    change derivedState _ _ _ = .vacant at hv
    have := hv ▸ hopen _ _ _
    cases this
  case amended h _ _ => exact tenantSound_rederive (not_vacant_of_inContract h)
  case toppedUp h => exact tenantSound_rederive h
  case collected h => exact tenantSound_rederive h
  case suspended => exact ⟨fun h => (nomatch h), fun h => (nomatch h)⟩
  case resumed =>
    refine ⟨fun _ => rfl, fun hv => ?_⟩
    have hopen := derivedState_open r.allowance r.overage r.ceiling
    change derivedState r.allowance r.overage r.ceiling = .vacant at hv
    rw [hv] at hopen
    cases hopen

theorem tenantSound_move {b : Bool} {r r' : Tenant} (h : TenantMove b r r') (hr : tenantSound r) : tenantSound r' := by
  obtain ⟨hderived, hvacant⟩ := hr
  cases h
  case inBuffer n hn =>
    refine ⟨hderived, fun hv => ?_⟩
    have hr := hvacant hv
    subst hr
    have : n = 0 := by
      rcases hn with hn | hn
      · exact absurd rfl hn
      · exact Nat.le_zero.mp hn
    rw [this]
    rfl
  case vacant => exact ⟨fun h => (by cases h), fun _ => rfl⟩
  case charged h => exact tenantSound_rederive (not_vacant_of_inContract h)
  case event he => exact tenantSound_event he

theorem tenantSound_stationCount {r : Tenant} (n : Nat) (hn : r.state ≠ .vacant ∨ n ≤ r.stationCount)
    (hr : tenantSound r) : tenantSound { r with stationCount := n } := by
  obtain ⟨hderived, hvacant⟩ := hr
  refine ⟨hderived, fun hv => ?_⟩
  have hr := hvacant hv
  subst hr
  have : n = 0 := by
    rcases hn with hn | hn
    · exact absurd rfl hn
    · exact Nat.le_zero.mp hn
  rw [this]
  rfl

theorem tenantSound_draining (r : Tenant) : tenantSound { r with state := .draining } :=
  ⟨fun h => (nomatch h), fun h => (nomatch h)⟩

theorem tenantSound_vacant : tenantSound vacantTenant := ⟨fun h => (by cases h), fun _ => rfl⟩

theorem tenantsSound_step {s t : State} (hs : TenantsSound s) (h : step s = .next t) : TenantsSound t :=
  law_of_tenants tenantSound_vacant tenantSound_move tenantSound_stationCount
    (fun _ => tenantSound_draining _) hs h

theorem rederive_inRange {r : Tenant} (h : tenantInRange r) : tenantInRange r.rederive := by
  rw [rederive_eq]
  exact h

theorem zeroMeters_inRange : metersInRange zeroMeters := by unfold metersInRange; decide

theorem addSaturating_le (limit a b : Nat) : addSaturating limit a b ≤ limit := Nat.min_le_left _ _

theorem tenantInRange_event {r r' : Tenant} (h : TenantEvent r r') (hr : tenantInRange r) :
    tenantInRange r' := by
  obtain ⟨hallow, hover, hceil, hmeters⟩ := hr
  cases h
  case opened _ ha hc =>
    refine ⟨ha, Nat.zero_le _, hc, fun c => ?_⟩
    cases c <;> exact zeroMeters_inRange
  case amended _ _ hc => exact rederive_inRange ⟨hallow, hover, hc, hmeters⟩
  case toppedUp => exact rederive_inRange ⟨Nat.min_le_left _ _, hover, hceil, hmeters⟩
  case collected =>
    refine rederive_inRange ⟨hallow, Nat.zero_le _, hceil, fun c => ?_⟩
    have hcollected (m : Meters) (hm : metersInRange m) : metersInRange m.collected :=
      ⟨Nat.zero_le _, Nat.zero_le _, Nat.zero_le _, hm.2.2.2⟩
    cases c
    · exact hcollected _ (hmeters .c0)
    · exact hcollected _ (hmeters .c1)
    · exact hcollected _ (hmeters .c2)
    · exact hcollected _ (hmeters .c3)
  case suspended => exact ⟨hallow, hover, hceil, hmeters⟩
  case resumed => exact ⟨hallow, hover, hceil, hmeters⟩

theorem tenantInRange_vacant : tenantInRange vacantTenant :=
  ⟨Nat.zero_le _, Nat.zero_le _, Nat.zero_le _, fun c => by cases c <;> exact zeroMeters_inRange⟩

theorem tenantInRange_move {b : Bool} {r r' : Tenant} (h : TenantMove b r r') (hr : tenantInRange r) :
    tenantInRange r' := by
  cases h
  case vacant => exact tenantInRange_vacant
  case charged product c len _ =>
    obtain ⟨hallow, -, hceil, hmeters⟩ := hr
    refine rederive_inRange ⟨Nat.le_trans (Nat.sub_le _ _) hallow, addSaturating_le _ _ _, hceil,
      fun d => ?_⟩
    show metersInRange ((r.meters.set c _).get d)
    rw [PerClass.get_set]
    split
    · refine ⟨addSaturating_le _ _ _, addSaturating_le _ _ _, addSaturating_le _ _ _, ?_⟩
      exact Nat.le_of_lt_succ (Nat.mod_lt _ (by decide))
    · exact hmeters d
  case event he => exact tenantInRange_event he hr
  all_goals exact hr

/-! ### Profiles (R19) -/

theorem profileInRange_powerOn : profileInRange powerOnProfile := by
  refine ⟨fun c => ?_, by decide, by decide, fun c => ?_, rfl⟩
  · cases c <;> exact Nat.zero_le _
  · cases c <;> decide

theorem profile_of_effect {s t : State} (h : Effect s t) (n : Nat) :
    t.profile n = s.profile n ∨ profileInRange (t.profile n) := by
  cases h
  case powerOn =>
    exact .inr profileInRange_powerOn
  case port ht => exact .inl (ht.profile n)
  case join c p _ _ => exact .inl ((sameRegisters_of_buffer (onlyBuffer_admitCopy s c p)).profile n)
  case complete p c f rest _ _ _ =>
    exact .inl ((sameRegisters_of_buffer (onlyBuffer_completeFrame _ f)).profile n)
  case suspect p e u _ _ hu =>
    exact .inl (((sameRegisters_of_buffer (onlyBuffer_leaveUp u p _)).profile n).trans (hu.profile n))
  case fall p r u _ _ hu => exact .inl (((sameRegisters_downEffects u p).profile n).trans (hu.profile n))
  case adminFall p _ _ =>
    exact .inl (((sameRegisters_downEffects _ p).profile n).trans
      ((sameRegisters_of_buffer (onlyBuffer_leaveUp s p _)).profile n))
  case storm p _ _ => exact .inl ((sameRegisters_of_buffer (onlyBuffer_stormExpiry s p)).profile n)
  case pauseWrite k q _ =>
    rw [retestPorts_eq]
    exact .inl rfl
  case profile m r hr =>
    rw [State.profile_set]
    split
    · exact .inr hr
    · exact .inl rfl
  case learn u a d hu hopen ha =>
    rw [(stationEvent_learn d hu hopen ha).eq]
    exact .inl rfl
  case insert u a d hu ha hv hd =>
    rw [(stationEvent_insert d hu ha hv hd).eq]
    exact .inl rfl
  case stationVisit q _ _ =>
    show (visitStation q.carried q.position s).profile n = _ ∨ _
    rw [(stationEvent_visit s q.carried q.position).eq]
    exact .inl rfl
  case passEnd q _ _ =>
    rw [endPass_eq]
    exact .inl rfl
  all_goals exact .inl rfl

/-- Settles O57: each move of a tenant record keeps it lawful and in range; PROFILE_WRITE stores what R19 admits. -/
theorem everyStepKeepsTenantAndProfileRecords : Obligations.EveryStepKeepsTenantAndProfileRecords := by
  unfold Obligations.EveryStepKeepsTenantAndProfileRecords TenantsInRange
  refine ⟨fun s t => tenantsSound_step,
    fun s t hs h => law_of_tenants tenantInRange_vacant tenantInRange_move (fun _ _ hr => hr) id hs h,
    fun s t hs h => law_of_effects (fun hsame hs n => ?_) (fun heff hs n => ?_) hs h⟩
  · rw [hsame.profile]
    exact hs n
  · rcases profile_of_effect heff n with h | h
    · rw [h]
      exact hs n
    · exact h

/-! ### The request engine (R176, R178) -/

theorem length_set_eq {l : List Word} {i : Nat} {w : Word} (h : l.length = 32) : (l.set i w).length = 32 := by
  rw [List.length_set, h]

/-- R178: the slot kept for the reply takes it. -/
theorem engineBounds_finish {s : State} {e : Execution} {a : Answer} (he : s.execution = some e)
    (hrequests : a.state.requests = s.requests) (hreplies : a.state.replies = s.replies)
    (harea : a.state.postingArea = s.postingArea) (hs : EngineBounds s) :
    EngineBounds (finishRequest e a) := by
  obtain ⟨hq, hr, hp, hqs, hrs⟩ := hs
  rw [he] at hr
  refine ⟨hrequests ▸ hq, ?_, harea ▸ hp, hrequests ▸ hqs, fun m hm => ?_⟩
  · show (if e.keepReply then a.state.replies ++ [replyTo e.message a.status a.body]
      else a.state.replies).length + 0 ≤ 32
    rw [hreplies]
    split
    · next hk => simpa [hk] using hr
    · exact Nat.le_trans (Nat.le_add_right _ _) hr
  · change m ∈ (if e.keepReply then a.state.replies ++ [replyTo e.message a.status a.body]
      else a.state.replies) at hm
    rw [hreplies] at hm
    split at hm
    · rcases List.mem_append.mp hm with hm | hm
      · exact hrs m hm
      · rw [List.mem_singleton.mp hm]
        exact replyTo_length _ _ _
    · exact hrs m hm

theorem engineBounds_congr {s t : State} (h : SameHost s t) (hs : EngineBounds s) : EngineBounds t := by
  obtain ⟨-, -, -, harea, hrequests, hexec, hreplies, -⟩ := h
  unfold EngineBounds
  rw [hrequests, hreplies, hexec, harea]
  exact hs

theorem engineBounds_hostWrite {s t : State} (h : HostWrite s t) (hs : EngineBounds s) : EngineBounds t := by
  obtain ⟨hq, hr, hp, hqs, hrs⟩ := hs
  cases h
  case area i w => exact ⟨hq, hr, length_set_eq hp, hqs, hrs⟩
  case post w hroom =>
    refine ⟨?_, hr, length_set_eq hp, fun m hm => ?_, hrs⟩
    · simp only [List.length_append, List.length_singleton]
      omega
    · rcases List.mem_append.mp hm with hm | hm
      · exact hqs m hm
      · rw [List.mem_singleton.mp hm]
        exact length_set_eq hp
  case control w =>
    refine ⟨hq, ?_, hp, hqs, fun m hm => ?_⟩
    · show (if w.getLsbD 0 then s.replies.tail else s.replies).length + _ ≤ 32
      split
      · rw [List.length_tail]
        exact Nat.le_trans (Nat.add_le_add_right (Nat.sub_le _ _) _) hr
      · exact hr
    · change m ∈ (if w.getLsbD 0 then s.replies.tail else s.replies) at hm
      split at hm
      · exact hrs m (List.mem_of_mem_tail hm)
      · exact hrs m hm
  case take m rest hfront hroom =>
    rw [hfront] at hq hqs
    exact ⟨Nat.le_trans (Nat.le_succ _) hq, hroom, hp, fun x hx => hqs x (List.mem_cons_of_mem m hx), hrs⟩

theorem engineBounds_reset : EngineBounds State.reset := by
  exact ⟨by decide, by decide, by decide, fun m hm => (by cases hm), fun m hm => (by cases hm)⟩

theorem engineBounds_outcome {s t : State} (h : Outcome s t) (hs : EngineBounds s) : EngineBounds t := by
  cases h with
  | event hw => exact engineBounds_congr hw.sameHost hs
  | host hw => exact engineBounds_hostWrite hw hs
  | overrun w =>
    have harea : EngineBounds { s with postingArea := s.postingArea.set 31 w, overrun := true } := by
      obtain ⟨hq, hr, hp, hqs, hrs⟩ := hs
      exact ⟨hq, hr, length_set_eq hp, hqs, hrs⟩
    exact engineBounds_congr (Writes.notice .postingOverrun 0 .refl).sameHost harea
  | controlReset =>
    refine ⟨Nat.zero_le _, ?_, rfl, fun m hm => (by cases hm), fun m hm => (by cases hm)⟩
    show 0 + _ ≤ 32
    split <;> omega
  | answer he hw =>
    obtain ⟨-, -, -, harea, hrequests, -, hreplies, -⟩ := hw.sameHost
    exact engineBounds_finish he hrequests hreplies harea hs
  | @fetch e he =>
    obtain ⟨d, l, h⟩ := noticeFetchEffect_eq e.message s
    refine engineBounds_finish he ?_ ?_ ?_ hs <;> rw [h]
  | @mask e he => refine engineBounds_finish he ?_ ?_ ?_ hs <;> rw [noticeMaskEffect_state]

theorem engineBounds_step {s t : State} (hs : EngineBounds s) (h : step s = .next t) : EngineBounds t := by
  rcases step_cases h with rfl | ⟨-, rfl⟩ | ⟨c, rest, -, hexec⟩
  · exact hs
  · exact hs
  · by_cases hc : c = .powerOn
    · subst hc
      cases hexec
      exact engineBounds_reset
    · exact engineBounds_outcome (exec_outcome hc hexec) hs

/-- Settles O58: appends keep histories in order, the engine keeps a slot for each reply, and the timebase waits for
the AGING posting that is due. -/
theorem everyStepKeepsHistoriesAndQueuesBounded : Obligations.EveryStepKeepsHistoriesAndQueuesBounded := by
  unfold Obligations.EveryStepKeepsHistoriesAndQueuesBounded
  refine ⟨fun s t hs h => law_of_effects (fun hsame hs p => ?_) flapsSound_effect hs h,
    fun s t => engineBounds_step,
    fun s t hs h => law_of_effects (fun hsame hs => ?_) agingSound_effect hs h⟩
  · rw [hsame.timebase, hsame.port]
    exact hs p
  · unfold AgingSound
    rw [hsame.timebase, hsame.nextAging]
    exact hs

end Sys2Proof.Proofs.TenantLaws

/-! The station table and the purges under every effect: each tenant's count is its entries, and no key has two
entries (O60). -/

namespace Sys2Proof.Proofs.StationLaws

open Sys2Proof Sys2Proof.Machine Sys2Proof.Safety Sys2Proof.Proofs.Outcomes Sys2Proof.Proofs.Effects
  Sys2Proof.Proofs.Stations Sys2Proof.Proofs.Buffer Sys2Proof.Proofs.PortLaws
  Sys2Proof.Proofs.TenantLaws

/-! ### The entries of a tenant -/

/-- Whether a slot holds an entry of tenant `u`. -/
def bears (u : Nat) (x : Option Entry) : Bool := x.any fun e => e.tenant == u

@[simp] theorem bears_none (u : Nat) : bears u none = false := rfl

@[simp] theorem bears_some (u : Nat) (e : Entry) : bears u (some e) = (e.tenant == u) := rfl

theorem length_filter_eq_sum (b : Nat → Bool) (l : List Nat) :
    (l.filter b).length = (l.map fun i => (b i).toNat).sum := by
  induction l with
  | nil => rfl
  | cons i rest ih => cases h : b i <;> simp [h, ih, Nat.add_comm]

theorem entriesOf_eq (s : State) (u : Nat) :
    entriesOf s u = ((List.range 16384).map fun i => (bears u (s.station i)).toNat).sum :=
  length_filter_eq_sum _ _

theorem entriesOf_congr {s t : State} {u : Nat} (h : ∀ i, bears u (t.station i) = bears u (s.station i)) :
    entriesOf t u = entriesOf s u := by
  rw [entriesOf_eq, entriesOf_eq]
  simp only [h]

/-- One slot written changes the entries by what it held and what it holds. -/
theorem entriesOf_write {s t : State} {i : Nat} {x : Option Entry} (hi : i < 16384)
    (h : ∀ j, t.station j = if j = i then x else s.station j) (u : Nat) :
    entriesOf t u + (bears u (s.station i)).toNat = entriesOf s u + (bears u x).toNat := by
  rw [entriesOf_eq, entriesOf_eq]
  refine sum_range_of_one hi ?_ fun j hj => ?_
  · rw [h, if_pos rfl, Nat.add_comm]
  · rw [h, if_neg hj]

theorem entriesOf_eq_zero {s : State} {u : Nat} (h : ∀ i, i < 16384 → bears u (s.station i) = false) :
    entriesOf s u = 0 := by
  unfold entriesOf
  rw [List.length_eq_zero_iff, List.filter_eq_nil_iff]
  intro i hi
  have := h i (List.mem_range.mp hi)
  unfold bears at this
  rw [this]
  exact Bool.false_ne_true

/-! ### The law of one tenant (R5, R18) -/

/-- The record `r` of a tenant with `n` entries, whose purge is outstanding or not. -/
structure TenantLawful (purging : Bool) (n : Nat) (r : Tenant) : Prop where
  count : r.stationCount = n
  limit : n ≤ r.stationLimit
  draining : purging = true → r.state = .draining
  empty : r.state = .vacant ∨ r.state = .draining ∧ purging = false → n = 0

theorem rederive_state_of_not_vacant {r : Tenant} (h : r.state ≠ .vacant) :
    r.rederive.state ≠ .vacant ∧ (r.rederive.state = .draining ↔ r.state = .draining) := by
  have hopen := derivedState_open r.allowance r.overage r.ceiling
  unfold Tenant.rederive
  split
  · next ho =>
    refine ⟨fun hv => ?_, fun hd => ?_, fun hd => ?_⟩
    · change derivedState r.allowance r.overage r.ceiling = .vacant at hv
      rw [hv] at hopen
      cases hopen
    · change derivedState r.allowance r.overage r.ceiling = .draining at hd
      rw [hd] at hopen
      cases hopen
    · rw [hd] at ho
      cases ho
  · exact ⟨h, Iff.rfl⟩

section Lawful
variable {b : Bool} {n : Nat} {r r' : Tenant}

/-- A record whose state is neither VACANT nor DRAINING before and after. -/
theorem tenantLawful_open (hb : b = false) (hcount : r'.stationCount = n) (hlimit : n ≤ r'.stationLimit)
    (hv : r'.state ≠ .vacant) (hd : r'.state ≠ .draining) : TenantLawful b n r' where
  count := hcount
  limit := hlimit
  draining h := by rw [hb] at h; cases h
  empty h := h.elim (fun h => absurd h hv) fun h => absurd h.1 hd

/-- A record brought to its derived state keeps the law. -/
theorem tenantLawful_rederive (h : TenantLawful b n r) (hv : r.state ≠ .vacant) :
    TenantLawful b n r.rederive := by
  obtain ⟨hv', hd'⟩ := rederive_state_of_not_vacant hv
  rw [rederive_eq]
  exact
    { count := h.count, limit := h.limit, draining := fun hb => hd'.mpr (h.draining hb)
      empty := fun he => h.empty (he.imp (fun h => absurd h hv') fun h => ⟨hd'.mp h.1, h.2⟩) }

theorem not_purging (h : TenantLawful b n r) (hd : r.state ≠ .draining) : b = false := by
  rcases hb : b with _ | _
  · rfl
  · exact absurd (h.draining hb) hd

theorem not_draining_of_inContract {x : TenantState} (h : x.inContract = true) : x ≠ .draining := by
  rintro rfl
  cases h

theorem inContract_of_open {x : TenantState} (h : x.openForTraffic = true) : x.inContract = true := by
  cases x <;> first | rfl | cases h

theorem derivedState_ne (a o c : Nat) : derivedState a o c ≠ .vacant ∧ derivedState a o c ≠ .draining := by
  have h := derivedState_open a o c
  refine ⟨fun hv => ?_, fun hd => ?_⟩
  · rw [hv] at h; cases h
  · rw [hd] at h; cases h

theorem tenantLawful_event (he : TenantEvent r r') (h : TenantLawful b n r) : TenantLawful b n r' := by
  cases he
  case opened _ _ _ limit allowance ceiling hv _ _ =>
    have hn := h.empty (.inl hv)
    have hb : b = false := not_purging h (by rw [hv]; decide)
    obtain ⟨h1, h2⟩ := derivedState_ne allowance 0 ceiling
    exact tenantLawful_open hb h.count (by rw [hn]; exact Nat.zero_le _) h1 h2
  case amended m path hc hl _ =>
    exact tenantLawful_rederive (r := r.amended m path)
      { count := h.count, limit := h.count ▸ hl, draining := h.draining, empty := h.empty }
      (not_vacant_of_inContract hc)
  case toppedUp amount hv =>
    exact tenantLawful_rederive (r := { r with allowance := min Config.max40 (r.allowance + amount) })
      { count := h.count, limit := h.limit, draining := h.draining, empty := h.empty } hv
  case collected hv =>
    exact tenantLawful_rederive (r := { r with
        overage := 0, saturated := false
        meters := ⟨r.meters.c0.collected, r.meters.c1.collected, r.meters.c2.collected,
          r.meters.c3.collected⟩ })
      { count := h.count, limit := h.limit, draining := h.draining, empty := h.empty } hv
  case suspended ho =>
    have hb := not_purging h (not_draining_of_inContract (inContract_of_open ho))
    exact tenantLawful_open hb h.count h.limit (fun h => nomatch h) fun h => nomatch h
  case resumed hs =>
    have hb := not_purging h (by rw [hs]; decide)
    obtain ⟨h1, h2⟩ := derivedState_ne r.allowance r.overage r.ceiling
    exact tenantLawful_open hb h.count h.limit h1 h2

theorem tenantLawful_move (hm : TenantMove b r r') (h : TenantLawful b n r) : TenantLawful b n r' := by
  cases hm
  case inBuffer => exact { count := h.count, limit := h.limit, draining := h.draining, empty := h.empty }
  case vacant hd hb =>
    have hn := h.empty (.inr ⟨hd, hb⟩)
    subst hn
    exact
      { count := rfl, limit := Nat.le_refl _, draining := fun hb' => (by rw [hb] at hb'; cases hb')
        empty := fun _ => rfl }
  case charged product c len hc =>
    have hcharged := tenantLawful_rederive (r := (chargeRecord r product c len).record) (b := b) (n := n)
    unfold chargeRecord
    exact tenantLawful_rederive
      { count := h.count, limit := h.limit, draining := h.draining, empty := h.empty }
      (not_vacant_of_inContract hc)
  case event he => exact tenantLawful_event he h

end Lawful

/-! ### The law of the pass (R168 to R173) -/

/-- The clauses of PurgesSound that speak of the pass. -/
structure PassLawful (s : State) : Prop where
  disjoint : ∀ u, setHas s.jobs.tenants u = true → setHas s.carried.tenants u = false
  position : ∀ q, s.pass = some q → q.phase = .stations → q.position < 16384
  swept : ∀ q u i, s.pass = some q → setHas q.carried.tenants u = true → slotVisited q i →
    i < 16384 → bears u (s.station i) = false

/-- R5 and R18 as one statement for each tenant and one for the pass. -/
structure StationsLawful (s : State) : Prop where
  tenant : ∀ u, TenantLawful (s.purgeOutstanding u) (entriesOf s u) (s.tenant u)
  pass : PassLawful s

theorem stationsLawful_iff {s : State} : StationsLawful s ↔ StationCountLaw s ∧ PurgesSound s := by
  constructor
  · rintro ⟨htenant, hpass⟩
    refine ⟨fun u => ⟨(htenant u).count, ?_⟩, fun u => (htenant u).draining, hpass.disjoint, hpass.position,
      hpass.swept, fun u => (htenant u).empty⟩
    rw [(htenant u).count]
    exact (htenant u).limit
  · rintro ⟨hcount, hdraining, hdisjoint, hposition, hswept, hempty⟩
    exact
      { tenant := fun u =>
          { count := (hcount u).1, limit := (hcount u).1 ▸ (hcount u).2, draining := hdraining u
            empty := hempty u }
        pass := { disjoint := hdisjoint, position := hposition, swept := hswept } }

section Pass
variable {s t : State}

theorem carried_congr (h : t.pass = s.pass) : t.carried = s.carried := by
  unfold State.carried
  rw [h]

theorem carried_of_pass {q : Pass} (h : s.pass = some q) : s.carried = q.carried := by
  unfold State.carried
  rw [h]

/-- The law of the pass where no slot gains an entry of a carried tenant. -/
theorem PassLawful.of_same (h : PassLawful s) (hjobs : t.jobs.tenants = s.jobs.tenants)
    (hpass : t.pass = s.pass)
    (hstation : ∀ q u i, s.pass = some q → setHas q.carried.tenants u = true → i < 16384 →
      bears u (s.station i) = false → bears u (t.station i) = false) : PassLawful t where
  disjoint u hu := by
    rw [hjobs] at hu
    rw [carried_congr hpass]
    exact h.disjoint u hu
  position q hq := h.position q (hpass ▸ hq)
  swept q u i hq hu hv hi := hstation q u i (hpass ▸ hq) hu hi (h.swept q u i (hpass ▸ hq) hu hv hi)

theorem purgeOutstanding_of_carried {q : Pass} {u : Nat} (hq : s.pass = some q)
    (hu : setHas q.carried.tenants u = true) : s.purgeOutstanding u = true := by
  unfold State.purgeOutstanding State.carried
  rw [hq]
  simp only [hu, Bool.or_true]

end Pass

/-! ### The effects -/

section Steps
variable {s t : State}

theorem lawful_moves (hs : StationsLawful s)
    (hmoves : ∀ u, TenantMoves (s.purgeOutstanding u) (s.tenant u) (t.tenant u))
    (hstation : ∀ i, t.station i = s.station i) (hjobs : t.jobs.tenants = s.jobs.tenants)
    (hpass : t.pass = s.pass) : StationsLawful t where
  tenant u := by
    have hn : entriesOf t u = entriesOf s u := entriesOf_congr fun i => congrArg (bears u) (hstation i)
    rw [purgeOutstanding_congr hjobs hpass, hn]
    exact tenantMoves_keep tenantLawful_move (hmoves u) (hs.tenant u)
  pass := hs.pass.of_same hjobs hpass fun _ u i _ _ _ h => by rw [hstation]; exact h

theorem lawful_retire {x : Nat} (hs : StationsLawful s) (hc : (s.tenant x).state.inContract = true) :
    StationsLawful ((postPurge x s).setTenant x { s.tenant x with state := .draining }) := by
  have hx : s.purgeOutstanding x = false := not_purging (hs.tenant x) (not_draining_of_inContract hc)
  have hjobs (u : Nat) : setHas (setInsert s.jobs.tenants x) u = true
      ↔ u = x ∨ setHas s.jobs.tenants u = true := by simp
  constructor
  case tenant =>
    intro u
    have hu := hs.tenant u
    have hout : State.purgeOutstanding ((postPurge x s).setTenant x { s.tenant x with state := .draining }) u
        = (setHas (setInsert s.jobs.tenants x) u || setHas s.carried.tenants u) := rfl
    rw [hout]
    show TenantLawful _ (entriesOf s u) _
    by_cases h : u = x
    · subst h
      rw [(hjobs u).mpr (.inl rfl), State.tenant_set, if_pos rfl]
      exact
        { count := hu.count, limit := hu.limit, draining := fun _ => rfl
          empty := fun he => by rcases he with he | ⟨-, he⟩ <;> cases he }
    · have hsame : setHas (setInsert s.jobs.tenants x) u = setHas s.jobs.tenants u := by
        rw [Bool.eq_iff_iff, hjobs]
        simp [h]
      rw [hsame, State.tenant_set, if_neg h]
      exact hu
  case pass =>
    refine { disjoint := fun u hu => ?_, position := hs.pass.position, swept := hs.pass.swept }
    rcases (hjobs u).mp hu with rfl | hu
    · exact (Bool.or_eq_false_iff.mp hx).2
    · exact hs.pass.disjoint u hu

theorem lawful_written (hs : StationsLawful s) (h : EntryWritten s t) : StationsLawful t := by
  cases h
  case none => exact hs
  case rewrite i e e' he hk _ =>
    have hbears (u j : Nat) : bears u ((s.setStation i (some e')).station j) = bears u (s.station j) := by
      rw [State.station_set]
      split
      · next hj => rw [hj, he, bears_some, bears_some, hk.1]
      · rfl
    exact
      { tenant := fun u => by rw [entriesOf_congr (hbears u)]; exact hs.tenant u
        pass := hs.pass.of_same rfl rfl fun _ u i _ _ _ h => (hbears u i).trans h }
  case join i e hb hfree _ _ _ _ hroom hv hd =>
    have hi := bucketSlot_lt hb
    have hwrite := entriesOf_write (s := s)
      (t := (s.setStation i (some e)).setTenant e.tenant
        { s.tenant e.tenant with stationCount := (s.tenant e.tenant).stationCount + 1 })
      hi (State.station_set s i · (some e))
    have hx : s.purgeOutstanding e.tenant = false := not_purging (hs.tenant e.tenant) hd
    constructor
    case tenant =>
      intro u
      have hu := hs.tenant u
      have hn := hwrite u
      rw [hfree, bears_none, bears_some] at hn
      rw [State.tenant_set]
      by_cases h : u = e.tenant
      · subst h
        simp only [beq_self_eq_true, Bool.toNat_true, Bool.toNat_false, Nat.add_zero] at hn
        rw [if_pos rfl, hn]
        exact tenantLawful_open hx (congrArg (· + 1) hu.count) (hu.count ▸ hroom) hv hd
      · have hne : (e.tenant == u) = false := beq_false_of_ne fun h' => h h'.symm
        simp only [hne, Bool.toNat_false, Nat.add_zero] at hn
        rw [if_neg h, hn]
        exact hu
    case pass =>
      refine hs.pass.of_same rfl rfl fun q u j hq hu _ h => ?_
      show bears u ((s.setStation i (some e)).station j) = false
      rw [State.station_set]
      split
      · rw [bears_some]
        refine beq_false_of_ne fun h' => ?_
        rw [h', purgeOutstanding_of_carried hq hu] at hx
        cases hx
      · exact h

theorem lawful_remove {i : Nat} {e : Entry} (hs : StationsLawful s) (he : s.station i = some e)
    (hi : i < 16384) : StationsLawful (removeEntry i e s) := by
  have hwrite := entriesOf_write (s := s) (t := removeEntry i e s) hi (State.station_set s i · none)
  constructor
  case tenant =>
    intro u
    have hu := hs.tenant u
    have hn := hwrite u
    rw [he, bears_none, bears_some] at hn
    show TenantLawful (s.purgeOutstanding u) _ _
    rw [removeEntry, State.tenant_set]
    change entriesOf (removeEntry i e s) u + _ = _ at hn
    change TenantLawful _ (entriesOf (removeEntry i e s) u) _
    by_cases h : u = e.tenant
    · subst h
      simp only [beq_self_eq_true, Bool.toNat_true, Bool.toNat_false, Nat.add_zero] at hn
      have hcount := hu.count
      have hlimit := hu.limit
      rw [if_pos rfl]
      exact
        { count := by show (s.tenant e.tenant).stationCount - 1 = _; omega
          limit := by show _ ≤ (s.tenant e.tenant).stationLimit; omega
          draining := hu.draining
          empty := fun h => by have := hu.empty h; omega }
    · have hne : (e.tenant == u) = false := beq_false_of_ne fun h' => h h'.symm
      simp only [hne, Bool.toNat_false, Nat.add_zero] at hn
      rw [if_neg h, hn]
      exact hu
  case pass =>
    refine hs.pass.of_same rfl rfl fun q u j _ _ _ h => ?_
    show bears u ((s.setStation i none).station j) = false
    rw [State.station_set]
    split
    · rfl
    · exact h

theorem lawful_visitStation {q : Pass} (hs : StationsLawful s) (hi : q.position < 16384) :
    StationsLawful (visitStation q.carried q.position s) := by
  unfold visitStation
  split
  · next e he =>
    split
    · exact lawful_remove hs he hi
    · exact hs
  · exact hs

/-- R170: after the visit the slot holds no entry of a carried tenant. -/
theorem bears_visitStation {j : Jobs} {i u : Nat} (hu : setHas j.tenants u = true) :
    bears u ((visitStation j i s).station i) = false := by
  unfold visitStation
  split
  · next e he =>
    split
    · rw [removeEntry, State.setTenant_station, State.station_set, if_pos rfl]
      rfl
    · next hn =>
      rw [he, bears_some]
      refine beq_false_of_ne fun h => hn ?_
      unfold State.entrySwept
      rw [h, hu]
      simp
  · next hnone => rw [hnone]; rfl

theorem lawful_stationVisit {q : Pass} (hs : StationsLawful s) (hq : s.pass = some q)
    (hphase : q.phase = .stations) :
    StationsLawful { visitStation q.carried q.position s with pass := some q.afterStation } := by
  have hi := hs.pass.position q hq hphase
  have hv := lawful_visitStation hs hi
  have hvpass : (visitStation q.carried q.position s).pass = some q := by
    rw [(stationEvent_visit s q.carried q.position).eq]
    exact hq
  have hcarried : q.afterStation.carried = q.carried := by
    unfold Pass.afterStation
    split <;> rfl
  generalize hu : visitStation q.carried q.position s = v at hv hvpass
  have hout (x : Nat) : State.purgeOutstanding { v with pass := some q.afterStation } x = v.purgeOutstanding x := by
    unfold State.purgeOutstanding State.carried
    simp only [hvpass, hcarried]
  constructor
  case tenant =>
    intro x
    rw [hout]
    exact hv.tenant x
  case pass =>
    refine { disjoint := fun x hx => ?_, position := fun q' hq' => ?_, swept := fun q' x i hq' hx hvis hi' => ?_ }
    · have := hv.pass.disjoint x hx
      rw [carried_of_pass hvpass] at this
      show setHas q.afterStation.carried.tenants x = false
      rw [hcarried]
      exact this
    · cases hq'
      unfold Pass.afterStation
      split
      · next h => exact fun _ => h
      · exact fun h => nomatch h
    · cases hq'
      rw [hcarried] at hx
      show bears x (v.station i) = false
      by_cases hpos : i = q.position
      · rw [hpos, ← hu]
        exact bears_visitStation hx
      · refine hv.pass.swept q x i hvpass hx (.inr ?_) hi'
        unfold Pass.afterStation slotVisited at hvis
        split at hvis
        · rcases hvis with h | h
          · exact nomatch hphase.symm.trans h
          · have : i < q.position + 1 := h
            omega
        · omega

theorem lawful_pinVisit {q : Pass} (hs : StationsLawful s) (hq : s.pass = some q) (hphase : q.phase = .pins) :
    StationsLawful { s with pass := some { q with position := q.position + 1 } } := by
  have hout (x : Nat) : State.purgeOutstanding { s with pass := some { q with position := q.position + 1 } } x
      = s.purgeOutstanding x := by
    unfold State.purgeOutstanding State.carried
    simp only [hq]
  constructor
  case tenant =>
    intro x
    rw [hout]
    exact hs.tenant x
  case pass =>
    refine { disjoint := fun x hx => ?_, position := fun q' hq' hp => ?_, swept := fun q' x i hq' hx _ hi => ?_ }
    · have := hs.pass.disjoint x hx
      unfold State.carried at this ⊢
      rw [hq] at this
      exact this
    · cases hq'
      exact nomatch hphase.symm.trans hp
    · cases hq'
      exact hs.pass.swept q x i hq hx (.inl hphase) hi

theorem lawful_passStart (hs : StationsLawful s) (hq : s.pass = none) :
    StationsLawful { s with
      jobs := noJobs, pass := some { carried := s.jobs, phase := .stations, position := 0 } } := by
  have hout (x : Nat) : State.purgeOutstanding { s with
      jobs := noJobs, pass := some { carried := s.jobs, phase := .stations, position := 0 } } x
      = s.purgeOutstanding x := by
    have hnone : setHas noJobs.tenants x = false := rfl
    unfold State.purgeOutstanding State.carried
    simp only [hq, hnone, Bool.false_or, Bool.or_false]
  constructor
  case tenant =>
    intro x
    rw [hout]
    exact hs.tenant x
  case pass =>
    refine { disjoint := fun x hx => (by cases hx), position := fun q' hq' _ => ?_
             swept := fun q' x i hq' _ hvis _ => ?_ }
    · cases hq'
      exact Nat.succ_pos 16383
    · cases hq'
      rcases hvis with h | h
      · cases h
      · exact absurd h (Nat.not_lt_zero i)

theorem lawful_passEnd {q : Pass} (hs : StationsLawful s) (hq : s.pass = some q) (hf : q.finished = true) :
    StationsLawful (endPass q.carried s) := by
  have hphase : q.phase = .pins := by
    simp only [Pass.finished, Bool.and_eq_true, beq_iff_eq] at hf
    exact hf.1
  have hend := endPass_eq (s := s) q.carried
  have hstation (i : Nat) : (endPass q.carried s).station i = s.station i := by rw [hend]; rfl
  have hout (x : Nat) : (endPass q.carried s).purgeOutstanding x = State.purgeOutstanding { s with pass := none } x := by
    rw [hend]; rfl
  constructor
  case tenant =>
    intro x
    have hx := hs.tenant x
    have hn : entriesOf (endPass q.carried s) x = entriesOf s x :=
      entriesOf_congr fun i => congrArg (bears x) (hstation i)
    rw [hout, hn]
    refine tenantMoves_keep tenantLawful_move (tenantMoves_endPass s x q.carried) ?_
    have hle : State.purgeOutstanding { s with pass := none } x = setHas s.jobs.tenants x := by
      have hnone : setHas noJobs.tenants x = false := rfl
      unfold State.purgeOutstanding State.carried
      simp only [hnone, Bool.or_false]
    refine { count := hx.count, limit := hx.limit, draining := fun hb => hx.draining ?_, empty := fun he => ?_ }
    · rw [hle] at hb
      unfold State.purgeOutstanding
      rw [hb, Bool.true_or]
    · by_cases hc : setHas q.carried.tenants x = true
      · exact entriesOf_eq_zero fun i hi => hs.pass.swept q x i hq hc (.inl hphase) hi
      · refine hx.empty (he.imp_right fun ⟨hd, hb⟩ => ⟨hd, ?_⟩)
        rw [hle] at hb
        unfold State.purgeOutstanding State.carried
        rw [hb, hq]
        exact Bool.eq_false_iff.mpr hc
  case pass =>
    refine { disjoint := fun x _ => ?_, position := fun q' hq' => ?_, swept := fun q' _ _ hq' => ?_ }
    · rw [hend]; rfl
    · rw [hend] at hq'; cases hq'
    · rw [hend] at hq'; cases hq'

theorem lawful_powerOn (l : List Instr) : StationsLawful { State.reset with pending := l } where
  tenant u := by
    have hn : entriesOf { State.reset with pending := l } u = 0 := entriesOf_eq_zero fun _ _ => rfl
    rw [hn]
    exact
      { count := rfl, limit := Nat.le_refl _, draining := fun h => (by cases h), empty := fun _ => rfl }
  pass :=
    { disjoint := fun u h => (by cases h), position := fun q hq => (by cases hq)
      swept := fun q _ _ hq => (by cases hq) }

theorem stationsLawful_effect (h : TenantEffect s t) (hs : StationsLawful s) : StationsLawful t := by
  cases h
  case powerOn l => exact lawful_powerOn l
  case moves hmoves hstation hjobs hpass => exact lawful_moves hs hmoves hstation hjobs hpass
  case retire x hc => exact lawful_retire hs hc
  case written he => exact lawful_written hs he
  case remove i e he hi => exact lawful_remove hs he hi
  case passStart hq => exact lawful_passStart hs hq
  case stationVisit q hq hphase => exact lawful_stationVisit hs hq hphase
  case pinVisit q hq hphase => exact lawful_pinVisit hs hq hphase
  case passEnd q hq hf => exact lawful_passEnd hs hq hf

theorem stationsLawful_same (h : SameRecords s t) (hs : StationsLawful s) : StationsLawful t :=
  lawful_moves hs (fun u => tenantMoves_of_eq (h.tenant u)) h.station h.purges h.pass

/-! ### The keys (R62, R63) -/

theorem keysSound_of_station (h : ∀ i e, t.station i = some e → s.station i = some e) (hs : KeysSound s) :
    KeysSound t :=
  ⟨fun i e he => hs.1 i e (h i e he), fun i j e e' he he' => hs.2 i j e e' (h i e he) (h j e' he')⟩

theorem keysSound_written (h : EntryWritten s t) (hs : KeysSound s) : KeysSound t := by
  obtain ⟨hplace, honce⟩ := hs
  cases h
  case none => exact ⟨hplace, honce⟩
  case rewrite i e e' he hk hl =>
    obtain ⟨hi, hb, ht, ha, -⟩ := hplace i e he
    have hread (j : Nat) (x : Entry) (hx : (s.setStation i (some e')).station j = some x) :
        ∃ y, s.station j = some y ∧ x.tenant = y.tenant ∧ x.address = y.address
          ∧ (x = y ∨ j = i ∧ x = e') := by
      rw [State.station_set] at hx
      split at hx
      · next hj =>
        cases hx
        exact ⟨e, hj ▸ he, hk.1, hk.2, .inr ⟨hj, rfl⟩⟩
      · exact ⟨x, hx, rfl, rfl, .inl rfl⟩
    refine ⟨fun j x hx => ?_, fun j k x y hx hy htenant haddress => ?_⟩
    · obtain ⟨z, hz, -, -, h | ⟨rfl, rfl⟩⟩ := hread j x hx
      · exact h ▸ hplace j z hz
      · rw [hk.1, hk.2]
        exact ⟨hi, hb, ht, ha, hl⟩
    · obtain ⟨x', hx', h1, h2, -⟩ := hread j x hx
      obtain ⟨y', hy', h3, h4, -⟩ := hread k y hy
      exact honce j k x' y' hx' hy' (h1.symm.trans (htenant.trans h3)) (h2.symm.trans (haddress.trans h4))
  case join i e hb hfree hnew ht ha hl _ _ _ =>
    have hread (j : Nat) (x : Entry) (hx : (s.setStation i (some e)).station j = some x) :
        s.station j = some x ∨ j = i ∧ x = e := by
      rw [State.station_set] at hx
      split at hx
      · next hj =>
        cases hx
        exact .inr ⟨hj, rfl⟩
      · exact .inl hx
    have hfresh (j : Nat) (x : Entry) (hx : s.station j = some x) :
        ¬(x.tenant = e.tenant ∧ x.address = e.address) := by
      intro hkey
      have hbx := (hplace j x hx).2.1
      rw [hkey.1, hkey.2] at hbx
      exact findEntry_none hnew hbx hx hkey
    refine ⟨fun j x hx => ?_, fun j k x y hx hy htenant haddress => ?_⟩
    · rcases hread j x hx with h | ⟨rfl, rfl⟩
      · exact hplace j x h
      · exact ⟨bucketSlot_lt hb, hb, ht, ha, hl⟩
    · rcases hread j x hx with h | ⟨rfl, rfl⟩
      · rcases hread k y hy with h' | ⟨rfl, rfl⟩
        · exact honce j k x y h h' htenant haddress
        · exact absurd ⟨htenant, haddress⟩ (hfresh j x h)
      · rcases hread k y hy with h' | ⟨rfl, rfl⟩
        · exact absurd ⟨htenant.symm, haddress.symm⟩ (hfresh k y h')
        · rfl

theorem removeEntry_station {i j : Nat} {e x : Entry} (h : (removeEntry i e s).station j = some x) :
    s.station j = some x := by
  change (s.setStation i none).station j = some x at h
  rw [State.station_set] at h
  split at h
  · cases h
  · exact h

theorem visitStation_station {c : Jobs} {i j : Nat} {x : Entry}
    (h : (visitStation c i s).station j = some x) : s.station j = some x := by
  unfold visitStation at h
  split at h
  · split at h
    · exact removeEntry_station h
    · exact h
  · exact h

theorem keysSound_effect (h : TenantEffect s t) (hs : KeysSound s) : KeysSound t := by
  cases h
  case powerOn => exact ⟨fun _ _ he => (by cases he), fun _ _ _ _ he => (by cases he)⟩
  case moves hstation _ _ => exact keysSound_of_station (fun i e he => hstation i ▸ he) hs
  case written he => exact keysSound_written he hs
  case remove i e _ _ => exact keysSound_of_station (fun _ _ => removeEntry_station) hs
  case stationVisit q _ _ =>
    exact keysSound_of_station
      (t := { visitStation q.carried q.position s with pass := some q.afterStation })
      (fun _ _ hx => visitStation_station (c := q.carried) (i := q.position) hx) hs
  case passEnd q _ _ =>
    refine keysSound_of_station (fun i e he => ?_) hs
    rw [endPass_eq] at he
    exact he
  all_goals exact hs

end Steps

/-- Settles O60: every change of the table changes a count with it, a purge leaves no entry behind it, and a new
entry is written only where its key has none. -/
theorem everyStepKeepsTheStationCounts : Obligations.EveryStepKeepsTheStationCounts := by
  unfold Obligations.EveryStepKeepsTheStationCounts
  refine ⟨fun s t ⟨hcount, hpurges, htenants⟩ h => ?_, fun s t hs h => ?_⟩
  · have hlawful : StationsLawful t := law_of_effects stationsLawful_same
      (fun heff => stationsLawful_effect (tenantEffect heff)) (stationsLawful_iff.mpr ⟨hcount, hpurges⟩) h
    obtain ⟨hcount', hpurges'⟩ := stationsLawful_iff.mp hlawful
    exact ⟨hcount', hpurges', tenantsSound_step htenants h⟩
  · exact law_of_effects
      (fun hsame => keysSound_of_station fun i e he => hsame.station i ▸ he)
      (fun heff => keysSound_effect (tenantEffect heff)) hs h

end Sys2Proof.Proofs.StationLaws

/-! The tenant requests (R7 to R16): refusals in order, and what each accepted request writes. -/

namespace Sys2Proof.Proofs.TenantRequests

open Sys2Proof Sys2Proof.Machine Sys2Proof.Safety Sys2Proof.Proofs.TenantRead Sys2Proof.Proofs.Outcomes
  Sys2Proof.Proofs.Buffer Sys2Proof.Proofs.PortLaws Sys2Proof.Proofs.TenantLaws Sys2Proof.Proofs.StationLaws

/-! ### The answer of a request -/

section Answer
variable {s t : State} {k : Nat} {m : Message} {keep : Bool} {effect : Message → State → Answer}

/-- R179: a request in execution is answered with what its effect answers. -/
theorem answer_of_effect {st : Status} {body : List Word} (h : Running s k m keep)
    (he : effect m s = { status := st, body := body, state := t }) :
    effectEvent (ofKind k) effect s = .next (answered m keep st body t) := by
  rw [effectEvent_of_running effect h, he]

theorem answer_of_refusal {st : Status} (h : Running s k m keep) (he : effect m s = refuseWith st s) :
    effectEvent (ofKind k) effect s = .next (answered m keep st [] s) := answer_of_effect h he

end Answer

/-! ### The checks of a tenant request (R7) -/

section Checks
variable {s : State} {m : Message} {ok : Bool} {effect : Nat → Tenant → Answer}

theorem needTenant_of_malformed (h : 1024 ≤ num m 1 ∨ ok = false) :
    needTenant m ok s effect = refuseWith .malformed s := if_pos h

theorem needTenant_of_accepted (h : ¬(1024 ≤ num m 1 ∨ ok = false))
    (hv : (s.tenant (num m 1)).state ≠ .vacant) :
    needTenant m ok s effect = effect (num m 1) (s.tenant (num m 1)) := by
  unfold needTenant
  rw [if_neg h, if_neg hv]

theorem needTenant_of_none (h : ¬(1024 ≤ num m 1 ∨ ok = false))
    (hv : (s.tenant (num m 1)).state = .vacant) : needTenant m ok s effect = refuseWith .noTenant s := by
  unfold needTenant
  rw [if_neg h, if_pos hv]

/-- R7's order, for the requests on a record that is not VACANT: the request refuses as the order says when its
own checks do so on such a record. -/
theorem needTenant_refuses {k : Nat} {st : Status} (hk : k ≠ 1) (hok : ok = tenantBodyInRange k m)
    (h : tenantRefusal k m (s.tenant (num m 1)) = some st)
    (hstate : (s.tenant (num m 1)).state ≠ .vacant → (s.tenant (num m 1)).state ∉ tenantStates k →
      effect (num m 1) (s.tenant (num m 1)) = refuseWith .badState s)
    (hlimit : (s.tenant (num m 1)).state ∈ tenantStates k →
      k = 2 ∧ num m 5 < (s.tenant (num m 1)).stationCount →
      effect (num m 1) (s.tenant (num m 1)) = refuseWith .limit s) :
    needTenant m ok s effect = refuseWith st s := by
  subst hok
  unfold tenantRefusal at h
  split at h
  · next hm => cases h; exact needTenant_of_malformed hm
  · next hm =>
    split at h
    · next hv => cases h; exact needTenant_of_none hm hv.2
    · next hv =>
      have hv' : (s.tenant (num m 1)).state ≠ .vacant := fun h => hv ⟨hk, h⟩
      split at h
      · next hs =>
        cases h
        rw [needTenant_of_accepted hm hv', hstate hv' hs]
      · next hs =>
        split at h
        · next hl =>
          cases h
          rw [needTenant_of_accepted hm hv', hlimit (not_not.mp hs) hl]
        · cases h

end Checks

section Refusals
variable {s : State} {m : Message} {st : Status}

/-- The eight requests on a record, by their effects. -/
theorem tenantOpenEffect_refuses (h : tenantRefusal 1 m (s.tenant (num m 1)) = some st) :
    tenantOpenEffect m s = refuseWith st s := by
  have hbody : tenantBodyInRange 1 m = (decide (num m 2 ≤ 15) && (optionalSet m 4).isSome
      && decide (num m 5 ≤ 16384) && decide (num2 m 6 ≤ 1099511627775)
      && decide (num2 m 8 ≤ 1099511627775)) := rfl
  unfold tenantRefusal at h
  rw [hbody] at h
  have hmax : Config.max40 = 1099511627775 := rfl
  unfold tenantOpenEffect
  rcases hpath : optionalSet m 4 with _ | path
  · rw [hpath] at h
    simp only [Option.isSome_none, Bool.and_false, Bool.false_and, or_true, if_true] at h
    cases h
    rfl
  · rw [hpath] at h
    dsimp only
    split
    · next hm =>
      rw [if_pos ?_] at h
      · cases h; rfl
      · simp only [Bool.and_eq_false_iff, decide_eq_false_iff_not, Option.isSome_some, Bool.true_eq_false,
          or_false]
        omega
    · next hm =>
      rw [if_neg ?_, if_neg (fun h => h.1 rfl)] at h
      · split at h
        · next hs =>
          rw [if_pos rfl] at h
          cases h
          have hv : (s.tenant (num m 1)).state ≠ .vacant := fun h => hs (by rw [h]; decide)
          rw [if_pos hv]
        · split at h
          · next hl => exact absurd hl.1 (by decide)
          · cases h
      · simp only [Bool.and_eq_false_iff, decide_eq_false_iff_not, Option.isSome_some, Bool.true_eq_false,
          or_false]
        omega

theorem tenantAmendEffect_refuses (h : tenantRefusal 2 m (s.tenant (num m 1)) = some st) :
    tenantAmendEffect m s = refuseWith st s := by
  have hbody : tenantBodyInRange 2 m = (decide (num m 2 ≤ 15) && (optionalSet m 4).isSome
      && decide (num m 5 ≤ 16384) && decide (num2 m 6 ≤ 1099511627775)) := rfl
  unfold tenantAmendEffect
  rcases hpath : optionalSet m 4 with _ | path
  · unfold tenantRefusal at h
    rw [hbody, hpath] at h
    simp only [Option.isSome_none, Bool.and_false, Bool.false_and, or_true, if_true] at h
    cases h
    rfl
  · rw [hpath] at hbody
    refine needTenant_refuses (by decide) ?_ h (fun hv hs => ?_) fun hs hl => ?_
    · rw [hbody]
      simp [Nat.lt_succ_iff]
    · refine if_pos ?_
      generalize (s.tenant (num m 1)).state = x at hv hs ⊢
      cases x <;> simp [tenantStates] at hv hs ⊢
    · rw [if_neg (fun hd => by rw [hd] at hs; exact absurd hs (by decide)), if_pos hl.2]

/-- A request that a DRAINING record refuses. -/
theorem draining_of_not_mem {x : TenantState} (hv : x ≠ .vacant)
    (hs : x ∉ [TenantState.active, .overage, .throttled, .suspended]) : x = .draining := by
  cases x <;> simp at hv hs ⊢

theorem tenantTopupEffect_refuses (h : tenantRefusal 3 m (s.tenant (num m 1)) = some st) :
    tenantTopupEffect m s = refuseWith st s :=
  needTenant_refuses (by decide) rfl h (fun hv hs => if_pos (draining_of_not_mem hv hs))
    fun _ hl => absurd hl.1 (by decide)

theorem mem_of_not_vacant {x : TenantState} (hv : x ≠ .vacant) :
    x ∈ [TenantState.active, .overage, .throttled, .suspended, .draining] := by
  cases x <;> simp at hv ⊢

theorem tenantCollectEffect_refuses (h : tenantRefusal 4 m (s.tenant (num m 1)) = some st) :
    tenantCollectEffect m s = refuseWith st s :=
  needTenant_refuses (by decide) rfl h (fun hv hs => absurd (mem_of_not_vacant hv) hs)
    fun _ hl => absurd hl.1 (by decide)

theorem tenantReadEffect_refuses (h : tenantRefusal 5 m (s.tenant (num m 1)) = some st) :
    tenantReadEffect m s = refuseWith st s :=
  needTenant_refuses (by decide) rfl h (fun hv hs => absurd (mem_of_not_vacant hv) hs)
    fun _ hl => absurd hl.1 (by decide)

theorem not_open_of_not_mem {x : TenantState} (hs : x ∉ [TenantState.active, .overage, .throttled]) :
    ¬x.openForTraffic = true := by
  cases x <;> simp [TenantState.openForTraffic] at hs ⊢

theorem tenantSuspendEffect_refuses (h : tenantRefusal 6 m (s.tenant (num m 1)) = some st) :
    tenantSuspendEffect m s = refuseWith st s :=
  needTenant_refuses (by decide) rfl h (fun _ hs => if_neg (not_open_of_not_mem hs))
    fun _ hl => absurd hl.1 (by decide)

theorem tenantResumeEffect_refuses (h : tenantRefusal 7 m (s.tenant (num m 1)) = some st) :
    tenantResumeEffect m s = refuseWith st s :=
  needTenant_refuses (by decide) rfl h
    (fun _ hs => if_neg fun h => hs (List.mem_singleton.mpr h)) fun _ hl => absurd hl.1 (by decide)

theorem tenantRetireEffect_refuses (h : tenantRefusal 8 m (s.tenant (num m 1)) = some st) :
    tenantRetireEffect m s = refuseWith st s :=
  needTenant_refuses (by decide) rfl h (fun hv hs => if_pos (draining_of_not_mem hv hs))
    fun _ hl => absurd hl.1 (by decide)

end Refusals

/-- Settles O17: each request makes R7's checks in R7's order. -/
theorem tenantRequestsRefuseInOrder : Obligations.TenantRequestsRefuseInOrder := by
  unfold Obligations.TenantRequestsRefuseInOrder
  intro s m keep st c k hck hrun h
  simp only [List.mem_cons, Prod.mk.injEq, List.not_mem_nil, or_false] at hck
  rcases hck with ⟨rfl, rfl⟩ | ⟨rfl, rfl⟩ | ⟨rfl, rfl⟩ | ⟨rfl, rfl⟩ | ⟨rfl, rfl⟩ | ⟨rfl, rfl⟩ | ⟨rfl, rfl⟩ | ⟨rfl, rfl⟩
  · exact answer_of_refusal hrun (tenantOpenEffect_refuses h)
  · exact answer_of_refusal hrun (tenantAmendEffect_refuses h)
  · exact answer_of_refusal hrun (tenantTopupEffect_refuses h)
  · exact answer_of_refusal hrun (tenantCollectEffect_refuses h)
  · exact answer_of_refusal hrun (tenantReadEffect_refuses h)
  · exact answer_of_refusal hrun (tenantSuspendEffect_refuses h)
  · exact answer_of_refusal hrun (tenantResumeEffect_refuses h)
  · exact answer_of_refusal hrun (tenantRetireEffect_refuses h)

/-! ### The accepted requests (R8 to R11, R13, R14, R16) -/

section Accepted
variable {s : State} {m : Message}

/-- R8: an allowance above 0 opens ACTIVE, any other OVERAGE. -/
theorem derivedState_opened (a c : Nat) : derivedState a 0 c = if 0 < a then .active else .overage := by
  unfold derivedState
  split
  · rfl
  · rw [if_neg]
    omega

/-- R3: the state of a tenant in contract once it is brought to its derived state. -/
theorem rederive_of_inContract {r : Tenant} (h : r.state.inContract = true) :
    r.rederive = { r with state := if r.state = .suspended then .suspended else r.derived } := by
  unfold Tenant.rederive
  rcases hs : r.state <;> simp [hs, TenantState.inContract, TenantState.openForTraffic] at h ⊢
  rw [← hs]

theorem tenantOpenEffect_accepts {path : Option (Fin 64)} (h1 : num m 1 < 1024) (h2 : num m 2 < 16)
    (hp : optionalSet m 4 = some path) (h5 : num m 5 ≤ 16384) (h6 : num2 m 6 ≤ 1099511627775)
    (h8 : num2 m 8 ≤ 1099511627775) (hv : (s.tenant (num m 1)).state = .vacant) :
    tenantOpenEffect m s = acceptTenant (num m 1) { s.tenant (num m 1) with
        state := derivedState (num2 m 6) 0 (num2 m 8), profile := num m 2, portSet := word m 3
        defaultPath := path, stationLimit := num m 5, allowance := num2 m 6, overage := 0
        ceiling := num2 m 8, saturated := false
        meters := ⟨zeroMeters, zeroMeters, zeroMeters, zeroMeters⟩ } .done
      [outState (derivedState (num2 m 6) 0 (num2 m 8))] s := by
  unfold tenantOpenEffect
  rw [hp]
  dsimp only
  have hmax (x : Nat) (h : x ≤ 1099511627775) : ¬Config.max40 < x := Nat.not_lt.mpr h
  rw [if_neg, if_neg (not_not.mpr hv)]
  rintro (h | h | h | h | h)
  · omega
  · omega
  · omega
  · exact hmax _ h6 h
  · exact hmax _ h8 h

theorem tenantAmendEffect_accepts {path : Option (Fin 64)} (h1 : num m 1 < 1024) (h2 : num m 2 < 16)
    (hp : optionalSet m 4 = some path) (h5 : num m 5 ≤ 16384) (h6 : num2 m 6 ≤ 1099511627775)
    (hc : (s.tenant (num m 1)).state.inContract = true)
    (hl : (s.tenant (num m 1)).stationCount ≤ num m 5) :
    tenantAmendEffect m s = acceptTenant (num m 1) ((s.tenant (num m 1)).amended m path).rederive .done
      [outState ((s.tenant (num m 1)).amended m path).rederive.state] s := by
  unfold tenantAmendEffect
  rw [hp]
  dsimp only
  rw [needTenant_of_accepted ?_ (not_vacant_of_inContract hc), if_neg (not_draining_of_inContract hc),
    if_neg (Nat.not_lt.mpr hl)]
  simp [Nat.not_le.mpr h1, h2, h5, h6]

/-- Settles O13: the record that each request writes, and its derived state. -/
theorem tenantOpenAndAmendWriteTheRecord : Obligations.TenantOpenAndAmendWriteTheRecord := by
  unfold Obligations.TenantOpenAndAmendWriteTheRecord
  refine ⟨fun s m keep path hrun h1 h2 hp h5 h6 h8 hv => ?_, fun s m keep path hrun h1 h2 hp h5 h6 hc hl => ?_⟩
  · have he := tenantOpenEffect_accepts h1 h2 hp h5 h6 h8 hv
    rw [derivedState_opened] at he
    have hword : [outState (if 0 < num2 m 6 then .active else .overage)]
        = [if 0 < num2 m 6 then 1#32 else 2#32] := by
      split <;> rfl
    rw [hword] at he
    exact answer_of_effect hrun he
  · have he := tenantAmendEffect_accepts h1 h2 hp h5 h6 hc hl
    rw [rederive_of_inContract (r := (s.tenant (num m 1)).amended m path) hc] at he
    exact ⟨_, rfl, answer_of_effect hrun he⟩

theorem tenantTopupEffect_accepts (h1 : num m 1 < 1024) (h2 : num2 m 2 ≤ 1099511627775)
    (hc : (s.tenant (num m 1)).state.inContract = true) :
    tenantTopupEffect m s = acceptTenant (num m 1) ((s.tenant (num m 1)).toppedUp (num2 m 2))
      (doneStatus (decide (Config.max40 < (s.tenant (num m 1)).allowance + num2 m 2)))
      (out2 ((s.tenant (num m 1)).toppedUp (num2 m 2)).allowance
        ++ [outState ((s.tenant (num m 1)).toppedUp (num2 m 2)).state]) s := by
  unfold tenantTopupEffect
  rw [needTenant_of_accepted ?_ (not_vacant_of_inContract hc), if_neg (not_draining_of_inContract hc)]
  simp [Nat.not_le.mpr h1, h2]

/-- R10: a sum held at its maximum. -/
theorem min_max40 (a : Nat) : min Config.max40 a = if 1099511627775 < a then 1099511627775 else a := by
  split
  · next h => exact Nat.min_eq_left (Nat.le_of_lt h)
  · next h => exact Nat.min_eq_right (Nat.not_lt.mp h)

theorem toppedUp_eq {r : Tenant} (amount : Nat) (hc : r.state.inContract = true) :
    r.toppedUp amount = { r with
      allowance := min Config.max40 (r.allowance + amount)
      state := if r.state = .suspended then .suspended
        else derivedState (min Config.max40 (r.allowance + amount)) r.overage r.ceiling } :=
  rederive_of_inContract (r := { r with allowance := min Config.max40 (r.allowance + amount) }) hc

/-- R11: the record after a collection. -/
theorem collected_eq (r : Tenant) : r.collected = { r with
    overage := 0, saturated := false
    state := if r.state.openForTraffic = true then derivedState r.allowance 0 r.ceiling else r.state
    meters := ⟨r.meters.c0.collected, r.meters.c1.collected, r.meters.c2.collected,
      r.meters.c3.collected⟩ } := by
  unfold Tenant.collected Tenant.rederive
  by_cases h : r.state.openForTraffic = true
  · rw [if_pos h, if_pos h]
    rfl
  · rw [if_neg h, if_neg h]

/-- Settles O14: the sum and its clamp, the meters zeroed, and the derived state. -/
theorem tenantTopupAndCollectMoveTheMoney : Obligations.TenantTopupAndCollectMoveTheMoney := by
  unfold Obligations.TenantTopupAndCollectMoveTheMoney
  refine ⟨fun s m keep hrun h1 h2 hc => ?_, fun s m keep hrun h1 hv => ?_⟩
  · have he := tenantTopupEffect_accepts h1 h2 hc
    rw [toppedUp_eq _ hc, min_max40] at he
    refine ⟨_, _, rfl, rfl, ?_⟩
    have hanswer := answer_of_effect hrun he
    rw [doneStatus] at hanswer
    simp only [decide_eq_true_eq] at hanswer
    exact hanswer
  · refine ⟨(s.tenant (num m 1)).collected, fun c => ?_, by rw [collected_eq], by rw [collected_eq], ?_⟩
    · rw [collected_eq]
      cases c <;> rfl
    · exact answer_of_effect (effect := tenantCollectEffect) hrun
        (needTenant_of_not_vacant (fun t r => acceptTenant t r.collected .done (tenantReport r r.collected.state) s)
          h1 hv)

/-- Settles O16: each request moves the state of a record that admits it. -/
theorem suspendResumeAndRetireMoveTheState : Obligations.SuspendResumeAndRetireMoveTheState := by
  unfold Obligations.SuspendResumeAndRetireMoveTheState
  refine fun s m keep h1 => ⟨fun hrun ho => ?_, fun hrun hs => ?_, fun hrun hc => ?_⟩
  · refine answer_of_effect (effect := tenantSuspendEffect) hrun ?_
    unfold tenantSuspendEffect
    rw [needTenant_of_not_vacant _ h1 (not_vacant_of_inContract (inContract_of_open ho)), if_pos ho]
    rfl
  · refine ⟨_, rfl, answer_of_effect (effect := tenantResumeEffect) hrun ?_⟩
    unfold tenantResumeEffect
    rw [needTenant_of_not_vacant _ h1 (by rw [hs]; decide), if_pos hs]
    rfl
  · refine answer_of_effect (effect := tenantRetireEffect) hrun ?_
    unfold tenantRetireEffect
    rw [needTenant_of_not_vacant _ h1 (not_vacant_of_inContract hc), if_neg (not_draining_of_inContract hc)]
    rfl

end Accepted

end Sys2Proof.Proofs.TenantRequests

/-! The machine, its timebase, the host side and the notices (00_scope.md, R38, R39, R175 to R188). -/

namespace Sys2Proof.Proofs.HostSide

open Sys2Proof Sys2Proof.Machine Sys2Proof.Safety Sys2Proof.Proofs.TenantRead Sys2Proof.Proofs.Outcomes
  Sys2Proof.Proofs.Buffer Sys2Proof.Proofs.PortLaws Sys2Proof.Proofs.TenantLaws Sys2Proof.Proofs.StationLaws
  Sys2Proof.Proofs.TenantRequests

/-! ### A step, and the power-on laws -/

/-- Settles O1: a step is the meaning of the command at the front. -/
theorem stepRunsTheFrontCommand : Obligations.StepRunsTheFrontCommand := by
  unfold Obligations.StepRunsTheFrontCommand
  exact fun s c rest => rfl

/-- Settles O51, from the laws of each part at power-on. -/
theorem powerOnMeetsEveryLaw : Obligations.PowerOnMeetsEveryLaw := by
  unfold Obligations.PowerOnMeetsEveryLaw
  obtain ⟨hfree, hbuffer, hlossless⟩ := buffer_reset []
  obtain ⟨hcount, hpurges⟩ := stationsLawful_iff.mp (lawful_powerOn [])
  have hpauses (k : PortKind) :
      (State.reset.pauseSettings.get k).pauseOff < (State.reset.pauseSettings.get k).pauseOn := by
    cases k <;> decide
  exact ⟨hfree, hbuffer, hlossless, fun _ => portQuiet_powerOn, fun _ => portTimed_powerOn,
    fun _ => portSends_powerOn, fun _ => ⟨Nat.zero_le _, .nil, fun _ hx => (by cases hx)⟩,
    fun _ => tenantSound_vacant, fun _ => tenantInRange_vacant, fun _ => profileInRange_powerOn,
    engineBounds_reset, canonical_reset, ⟨hcount, hpurges, fun _ => tenantSound_vacant⟩,
    ⟨fun _ _ he => (by cases he), fun _ _ _ _ he => (by cases he)⟩,
    ⟨hpauses, fun _ _ h => (by cases h)⟩, agingSound_reset []⟩

/-! ### The timebase (R38, R39) -/

theorem step_of_idle {s : State} (h : s.pending = []) : step s = tick s := by
  unfold step
  rw [h]

theorem advanced_eq {n x : Nat} (hn : n ≤ 1439) :
    Clock.advanced { valid := true, minute := n, nextAdvance := some x }
      = { valid := true, minute := if n = 1439 then 0 else n + 1, nextAdvance := some (60000000 + x) } := by
  unfold Clock.advanced
  have hminute : (n + 1) % 1440 = if n = 1439 then 0 else n + 1 := by
    split
    · next h => rw [h]
    · exact Nat.mod_eq_of_lt (by omega)
  simp only [hminute]
  rfl

/-- Settles O2: the three cases of the tick, the posting that is due, and the minute that wraps. -/
theorem theTimebaseCountsAndPosts : Obligations.TheTimebaseCountsAndPosts := by
  unfold Obligations.TheTimebaseCountsAndPosts
  refine ⟨fun s hidle => ⟨fun hdue => ?_, fun hdue hlt => ?_, fun hdue hge => ?_⟩, fun s hdue => ?_,
    fun s n x hclock hn hx => ?_⟩
  · rw [step_of_idle hidle, tick, if_pos hdue]
  · rw [step_of_idle hidle, tick, if_neg (by simp [hdue]), if_pos hlt]
  · rw [step_of_idle hidle, tick, if_neg (by simp [hdue]), if_neg (by omega)]
  · show execAgingPosting s = _
    rw [execAgingPosting, if_pos hdue]
    rfl
  · have hdue : s.advanceDue = true := by
      unfold State.advanceDue
      rw [hclock]
      simp [reached, hx]
    show execClockAdvance s = _
    rw [execClockAdvance, if_pos hdue, hclock, advanced_eq hn]

/-! ### POWER_ON and CONTROL_RESET (R188) -/

theorem masked_allMasked (s : State) (h : s.masks = allMasked) (k : NoticeKind) : s.masked k = true := by
  unfold State.masked
  rw [h]
  cases k <;> rfl

/-- Settles O5: the power-on state, read record by record. -/
theorem powerOnGivesEveryPowerOnValue : Obligations.PowerOnGivesEveryPowerOnValue := by
  unfold Obligations.PowerOnGivesEveryPowerOnValue
  refine fun s => ⟨{ State.reset with pending := s.pending }, rfl, rfl, fun _ => rfl, fun _ => rfl, rfl, rfl,
    fun _ => rfl, rfl, rfl, fun _ => rfl, fun _ => rfl, fun _ => rfl, rfl, fun k c => ?_, rfl, rfl, rfl, rfl, rfl,
    rfl, rfl, rfl, rfl, fun _ => rfl, masked_allMasked _ rfl⟩
  cases k <;> cases c <;> rfl

theorem interruptCondition_of_masked {s : State} (h : ∀ k, s.masked k = true) :
    s.interruptCondition = false := by
  unfold State.interruptCondition
  rw [List.any_eq_false]
  intro k _
  simp [h k]

/-- Settles O6: the fields that the reset empties; the request in execution loses its reply. -/
theorem controlResetEmptiesTheHostSide : Obligations.ControlResetEmptiesTheHostSide := by
  unfold Obligations.ControlResetEmptiesTheHostSide
  intro s
  have hmasked (t : State) (h : t.masks = allMasked) := masked_allMasked t h
  refine ⟨_, rfl, rfl, fun _ => rfl, hmasked _ rfl, interruptCondition_of_masked (hmasked _ rfl),
    fun h => ?_, fun m keep h => ?_⟩
  · show s.execution.map _ = none
    rw [h]
    rfl
  · show s.execution.map _ = _
    rw [h]
    rfl

/-! ### The host's writes and the request queue (R177, R178, R180) -/

theorem takeDue_of {s : State} {m : Message} {rest : List Message} (hq : s.requests = m :: rest)
    (he : s.execution = none) (hr : s.replies.length < 32) : s.takeDue = true := by
  unfold State.takeDue
  rw [hq, he]
  simpa using hr

/-- Settles O7: each write of the window, the taking, and the refusal of an unknown kind. -/
theorem hostWritesAndTakingsActAtOnce : Obligations.HostWritesAndTakingsActAtOnce := by
  unfold Obligations.HostWritesAndTakingsActAtOnce
  refine ⟨⟨fun s i w hi => if_pos hi, fun s w hq => ?_, fun s w hq => ?_, fun s w hw => ?_, fun s w hw => ?_⟩,
    fun s m rest hq he hr => ?_, fun s m keep he hk => ?_⟩
  · exact congrArg Host.Outcome.next (if_pos hq)
  · exact congrArg Host.Outcome.next (if_neg (Nat.not_lt.mpr hq))
  · have hover : (if w.getLsbD 1 then false else s.overrun) = (s.overrun && !w.getLsbD 1) := by
      cases w.getLsbD 1 <;> simp
    show execRelease w s = _
    rw [execRelease, if_pos hw, controlWrite, if_pos hw, hover, List.drop_one]
  · show execOverrunFlagClear w s = _
    rw [execOverrunFlagClear, if_pos hw, controlWrite, if_pos hw, List.drop_one]
  · show execRequestTake s = _
    rw [execRequestTake, if_pos (takeDue_of hq he hr), hq]
    rfl
  · show effectEvent unknownKindOf (fun _ s => refuseWith .malformed s) s = _
    exact effectEvent_of_mine (fun _ s => refuseWith .malformed s) he
      (by simpa [unknownKindOf] using hk)

/-! ### The host window (R175, R176) -/

section Window
variable {s : State}

/-- R175: the status word's number; its parts do not overlap. -/
theorem statusWord_toNat (h : EngineBounds s) : s.statusWord.toNat
    = s.freeSlots + 256 * s.replies.length + 65536 * s.overrun.toNat
      + 131072 * s.interruptCondition.toNat := by
  obtain ⟨-, hr, -⟩ := h
  have hslots : s.freeSlots ≤ 32 := Nat.sub_le _ _
  have hover := s.overrun.toNat_le
  have hcond := s.interruptCondition.toNat_le
  refine out_toNat_of_lt ?_
  omega

theorem getLsbD_of_toNat {w : Word} {i : Nat} {b : Bool} (h : w.toNat / 2 ^ i % 2 = b.toNat) :
    w.getLsbD i = b := by
  rw [BitVec.getLsbD, Nat.testBit_eq_decide_div_mod_eq, h]
  cases b <;> rfl

theorem word_of_lt {m : Message} {i : Nat} (h : i < m.length) : some (word m i) = m[i]? := by
  unfold word
  rw [List.getD_eq_getElem?_getD, List.getElem?_eq_getElem h]
  rfl

end Window

/-- Settles O9: the parts of the status word, the posting area and the oldest reply. -/
theorem theHostWindowReadsBack : Obligations.TheHostWindowReadsBack := by
  unfold Obligations.TheHostWindowReadsBack
  intro s h
  have hstatus := statusWord_toNat h
  obtain ⟨-, hr, harea, -, hreplies⟩ := h
  have hslots : s.freeSlots = 32 - s.requests.length := rfl
  have hover := s.overrun.toNat_le
  have hcond := s.interruptCondition.toNat_le
  refine ⟨⟨s.statusWord, rfl, ?_, ?_, ?_, ?_⟩, fun i hi => ?_, fun i hi m rest hm => ?_, fun i hi hm => ?_⟩
  · rw [BitVec.extractLsb'_toNat, hstatus, Nat.shiftRight_eq_div_pow]
    omega
  · rw [BitVec.extractLsb'_toNat, hstatus, Nat.shiftRight_eq_div_pow]
    omega
  · exact getLsbD_of_toNat (by rw [hstatus]; omega)
  · exact getLsbD_of_toNat (by rw [hstatus]; omega)
  · unfold State.windowRead
    rw [if_pos hi, word_of_lt (by omega)]
  · have hlen : m.length = 32 := hreplies m (by rw [hm]; exact List.mem_cons_self)
    unfold State.windowRead State.replyArea
    rw [if_neg (by omega), if_pos (by omega), Nat.add_sub_cancel_left, hm, List.headD_cons,
      word_of_lt (by omega)]
  · unfold State.windowRead State.replyArea
    rw [if_neg (by omega), if_pos (by omega), Nat.add_sub_cancel_left, hm, List.headD_nil,
      word_of_lt (by simpa [zeroMessage] using hi)]
    unfold zeroMessage
    rw [List.getElem?_replicate, if_pos hi]

/-! ### Notices (R184 to R187) -/

/-- Settles O10: the rule of one pend. -/
theorem pendingANoticeAddsItsSource : Obligations.PendingANoticeAddsItsSource := by
  unfold Obligations.PendingANoticeAddsItsSource
  refine fun k x s => ⟨by rw [pend_eq], fun y => ?_, fun hwf => ?_, fun j hj => ?_, (rises_pend k x s).2⟩
  · rw [pend_noticeSet, if_pos rfl, mem_setInsert]
  · rw [pend_noticeSet, if_pos rfl]
    exact setInsert_wf _ _ hwf
  · rw [pend_noticeSet, if_neg hj]

/-- R183: the kinds stand in the order of their priorities. -/
theorem noticeKinds_split (k : NoticeKind) :
    noticeKinds = noticeKinds.take (k.number - 1) ++ k :: noticeKinds.drop k.number := by
  cases k <;> rfl

theorem number_lt_of_mem_take {j k : NoticeKind} (h : j ∈ noticeKinds.take (k.number - 1)) :
    j.number < k.number := by
  revert h
  revert j
  cases k <;> decide

theorem mem_noticeKinds (k : NoticeKind) : k ∈ noticeKinds := by cases k <;> decide

theorem eligible_iff {s : State} {b : Bool} {k : NoticeKind} :
    s.eligible b k = true ↔ s.noticeSet k ≠ [] ∧ (b = true ∨ s.masked k = false) := by
  simp [State.eligible]

/-- R185: the eligible kind of highest priority and its lowest source. -/
theorem nextNotice_some {s : State} {b : Bool} {k : NoticeKind} {x : Nat} (hx : x ∈ s.noticeSet k)
    (hb : b = true ∨ s.masked k = false) (hmin : ∀ y ∈ s.noticeSet k, x ≤ y)
    (hfirst : ∀ j : NoticeKind, j.number < k.number → s.eligible b j = false) :
    s.nextNotice b = some (k, x) := by
  have hk : s.eligible b k = true := eligible_iff.mpr ⟨List.ne_nil_of_mem hx, hb⟩
  have hfind : noticeKinds.find? (s.eligible b) = some k := by
    rw [List.find?_eq_some_iff_append]
    refine ⟨hk, _, _, noticeKinds_split k, fun j hj => ?_⟩
    rw [hfirst j (number_lt_of_mem_take hj)]
    rfl
  have hlow : (s.noticeSet k).min? = some x := List.min?_eq_some_iff.mpr ⟨hx, hmin⟩
  unfold State.nextNotice
  rw [hfind]
  dsimp only
  rw [hlow]
  rfl

theorem nextNotice_none {s : State} {b : Bool} (h : ∀ j : NoticeKind, s.eligible b j = false) :
    s.nextNotice b = none := by
  have hfind : noticeKinds.find? (s.eligible b) = none :=
    List.find?_eq_none.mpr fun j _ => by simp [h j]
  unfold State.nextNotice
  rw [hfind]

/-- A flag word of 0 or 1 is read as it stands. -/
theorem flagField_of_le {m : Message} {i d : Nat} (h : num m i ≤ 1) :
    isOddFlag m i = false ∧ flagField d m i = (num m i == 1) := by
  have hodd : isOddFlag m i = false := by simpa [isOddFlag] using h
  unfold flagField
  rw [hodd]
  exact ⟨rfl, rfl⟩

theorem not_eligible_of {s : State} {m : Message} {j : NoticeKind}
    (h : s.noticeSet j = [] ∨ num m 1 = 0 ∧ s.masked j = true) :
    s.eligible (num m 1 == 1) j = false := by
  rw [← Bool.not_eq_true, eligible_iff]
  rintro ⟨hne, hb⟩
  rcases h with h | ⟨h0, hmask⟩
  · exact hne h
  · rw [h0, hmask] at hb
    rcases hb with hb | hb <;> cases hb

/-! ### Numbers as sets of bits (R190) -/

theorem foldl_add_eq {α : Type} (f : α → Nat) (l : List α) (a : Nat) :
    l.foldl (fun acc x => acc + f x) a = a + (l.map f).sum := by
  induction l generalizing a with
  | nil => simp
  | cons x rest ih => rw [List.foldl_cons, ih, List.map_cons, List.sum_cons, Nat.add_assoc]

/-- The bits of a sum of distinct powers of two. -/
theorem testBit_sum_two_pow {l : List Nat} (h : l.Pairwise (· < ·)) (n : Nat) :
    (l.map fun i => 2 ^ i).sum.testBit n = true ↔ n ∈ l := by
  rw [← Nat.mem_bitIndices, Nat.bitIndices_sum_map_two_pow (List.sortedLT_iff_pairwise.mpr h)]

theorem sum_two_pow_lt {l : List Nat} {w : Nat} (h : l.Pairwise (· < ·)) (hw : ∀ i ∈ l, i < w) :
    (l.map fun i => 2 ^ i).sum < 2 ^ w := by
  refine Nat.lt_pow_two_of_testBit _ fun n hn => ?_
  rw [← Bool.not_eq_true, testBit_sum_two_pow h]
  exact fun hmem => absurd (hw n hmem) (Nat.not_lt.mpr hn)

/-- The numbers of the kinds with a source pending, counted from 0. -/
def pendingNumbers (s : State) : List Nat :=
  (noticeKinds.filter fun k => !(s.noticeSet k).isEmpty).map fun k => k.number - 1

theorem pendingSummary_eq (s : State) : s.pendingSummary = ((pendingNumbers s).map fun i => 2 ^ i).sum := by
  unfold State.pendingSummary pendingNumbers
  rw [foldl_add_eq, List.map_map, Nat.zero_add]
  rfl

theorem pendingNumbers_sorted (s : State) : (pendingNumbers s).Pairwise (· < ·) := by
  have hall : (noticeKinds.map fun k => k.number - 1).Pairwise (· < ·) := by decide
  exact hall.sublist (List.filter_sublist.map _)

theorem mem_pendingNumbers {s : State} {n : Nat} :
    n ∈ pendingNumbers s ↔ ∃ k : NoticeKind, k.number = n + 1 ∧ s.noticeSet k ≠ [] := by
  have hpos (k : NoticeKind) : 0 < k.number := by cases k <;> decide
  simp only [pendingNumbers, List.mem_map, List.mem_filter, mem_noticeKinds, true_and, Bool.not_eq_true',
    List.isEmpty_eq_false_iff]
  constructor
  · rintro ⟨k, hk, rfl⟩
    exact ⟨k, (Nat.succ_pred_eq_of_pos (hpos k)).symm, hk⟩
  · rintro ⟨k, hn, hk⟩
    exact ⟨k, hk, by rw [hn]; rfl⟩

theorem pendingSummary_lt (s : State) : s.pendingSummary < 2048 := by
  rw [pendingSummary_eq]
  refine sum_two_pow_lt (w := 11) (pendingNumbers_sorted s) fun n hn => ?_
  obtain ⟨k, hk, -⟩ := mem_pendingNumbers.mp hn
  have : k.number ≤ 11 := by cases k <;> decide
  omega

theorem getLsbD_out {n i : Nat} (h : n < 4294967296) : (out n).getLsbD i = n.testBit i := by
  rw [BitVec.getLsbD, out_toNat_of_lt h]

/-- Settles O12: the fetch finds the first eligible kind and its least source; the mask word is read bit by bit. -/
theorem noticeRequestsFetchAndMask : Obligations.NoticeRequestsFetchAndMask := by
  unfold Obligations.NoticeRequestsFetchAndMask
  refine ⟨⟨fun s m keep k x hrun hm hb hx hmin hfirst => ?_, fun s m keep hrun hm hnone => ?_⟩,
    fun s m keep hrun => ?_, fun s n => ⟨pendingSummary_lt s, ?_⟩⟩
  · obtain ⟨hodd, hflag⟩ := flagField_of_le (d := s.draws) hm
    have hb' : (num m 1 == 1) = true ∨ s.masked k = false := hb.imp_left fun h => by simp [h]
    have hnext := nextNotice_some hx hb' hmin fun j hj => not_eligible_of (hfirst j hj)
    refine ⟨s.setNotices k (setErase (s.noticeSet k) x), answer_of_effect hrun ?_, rfl, fun y => ?_,
      fun j hj => ?_⟩
    · unfold noticeFetchEffect
      rw [hodd, hflag, hnext]
      rfl
    · rw [State.noticeSet_set, if_pos rfl, mem_setErase]
    · rw [State.noticeSet_set, if_neg hj]
  · obtain ⟨hodd, hflag⟩ := flagField_of_le (d := s.draws) hm
    refine answer_of_effect hrun ?_
    unfold noticeFetchEffect
    rw [hodd, hflag, nextNotice_none fun j => not_eligible_of (hnone j)]
    rfl
  · have hstate := noticeMaskEffect_state m s
    refine ⟨(noticeMaskEffect m s).state, answer_of_effect hrun ?_, by rw [hstate], fun k => ?_, ?_⟩
    · have hbody : (noticeMaskEffect m s).body
          = [out (noticeMaskEffect m s).state.masks.toNat, out (noticeMaskEffect m s).state.pendingSummary] := rfl
      have hmask : (noticeMaskEffect m s).state.masks.toNat = num m 1 % 2048 := by
        rw [hstate, BitVec.extractLsb'_toNat]
        rfl
      have hsummary : (noticeMaskEffect m s).state.pendingSummary = s.pendingSummary := by
        rw [hstate]
        rfl
      rw [hmask, hsummary] at hbody
      rw [← hbody]
      rfl
    · have hk : k.number - 1 < 11 := by cases k <;> decide
      unfold State.masked
      rw [hstate, BitVec.getLsbD_extractLsb']
      simp [hk]
    · have hcond : (noticeMaskEffect m s).state.interruptCondition
          = State.interruptCondition { s with masks := (word m 1).extractLsb' 0 11 } := by
        rw [hstate]
        rfl
      rw [hcond, hstate]
  · rw [getLsbD_out (Nat.lt_trans (pendingSummary_lt s) (by decide)), pendingSummary_eq,
      testBit_sum_two_pow (pendingNumbers_sorted s), mem_pendingNumbers]

end Sys2Proof.Proofs.HostSide

/-! Charging (02_charging.md): the parts of a charge, its balance, and two charges in either order. -/

namespace Sys2Proof.Proofs.Charges

open Sys2Proof Sys2Proof.Machine Sys2Proof.Safety Sys2Proof.Proofs.Buffer Sys2Proof.Proofs.TenantLaws

/-! ### The price (R26 to R29) -/

theorem multiplierFor_of_mapped {r : Profile} {c : Cls}
    (h : c = .c2 ∨ c = .c0 ∧ r.mapC0 = true ∨ c = .c1 ∧ r.mapC1 = true ∨ c = .c3 ∧ r.mapC3 = true) :
    r.multiplierFor c = r.multiplier := by
  rcases h with rfl | ⟨rfl, h⟩ | ⟨rfl, h⟩ | ⟨rfl, h⟩
  · rfl
  all_goals exact if_pos h

theorem multiplierFor_of_not_mapped {r : Profile} {c : Cls}
    (h : ¬(c = .c2 ∨ c = .c0 ∧ r.mapC0 = true ∨ c = .c1 ∧ r.mapC1 = true ∨ c = .c3 ∧ r.mapC3 = true)) :
    r.multiplierFor c = 1 := by
  obtain ⟨h2, h⟩ := not_or.mp h
  obtain ⟨h0, h⟩ := not_or.mp h
  obtain ⟨h1, h3⟩ := not_or.mp h
  cases c
  case c0 => exact if_neg fun h => h0 ⟨rfl, h⟩
  case c1 => exact if_neg fun h => h1 ⟨rfl, h⟩
  case c2 => exact absurd rfl h2
  case c3 => exact if_neg fun h => h3 ⟨rfl, h⟩

theorem multiplierFor_le {r : Profile} (h : r.multiplier ≤ 32) (c : Cls) : r.multiplierFor c ≤ 32 := by
  by_cases hc : c = .c2 ∨ c = .c0 ∧ r.mapC0 = true ∨ c = .c1 ∧ r.mapC1 = true ∨ c = .c3 ∧ r.mapC3 = true
  · rw [multiplierFor_of_mapped hc]
    exact h
  · rw [multiplierFor_of_not_mapped hc]
    decide

theorem surchargeAt_le {r : Profile} (h : r.surcharge ≤ 7) (clk : Clock) : r.surchargeAt clk ≤ 7 := by
  unfold Profile.surchargeAt
  split
  · exact h
  · exact Nat.zero_le _

theorem chargeProduct_le {r : Profile} {clk : Clock} {c : Cls} {len : Nat} (h : profileInRange r)
    (hlen : len ≤ 9216) : chargeProduct r clk c len ≤ 289905868800 := by
  obtain ⟨hrates, hmult, hsur, -⟩ := h
  have hmult : r.multiplier ≤ 32 := by
    revert hmult
    generalize r.multiplier = n
    intro h
    simp only [List.mem_cons, List.not_mem_nil, or_false] at h
    omega
  calc chargeProduct r clk c len
      ≤ 9216 * 65535 * 32 * (8 + 7) :=
        Nat.mul_le_mul (Nat.mul_le_mul (Nat.mul_le_mul hlen (hrates c)) (multiplierFor_le hmult c))
          (Nat.add_le_add_left (surchargeAt_le hsur clk) 8)
    _ = 289905868800 := rfl

/-- Settles O19: the bounds follow from those of the four factors; units and residue are quotient and remainder. -/
theorem priceAndBoundsOfACharge : Obligations.PriceAndBoundsOfACharge := by
  unfold Obligations.PriceAndBoundsOfACharge
  refine ⟨fun r clk len => ⟨fun c => multiplierFor_of_mapped, fun c => multiplierFor_of_not_mapped,
    fun ⟨hv, hp⟩ => ?_, fun h => ?_, fun c => rfl⟩, fun r clk c len residue hr hlen hres => ?_⟩
  · exact if_pos (by rw [hv]; exact hp)
  · exact if_neg fun hc => h ((Bool.and_eq_true _ _).mp hc)
  · have hprod := chargeProduct_le (clk := clk) (c := c) hr hlen
    unfold chargeUnits chargeResidue
    omega

/-! ### The parts of a charge (R28, R31 to R36) -/

/-- R28: the units that a charge of the product makes for the class. -/
def unitsOf (r : Tenant) (product : Nat) (c : Cls) : Nat := chargeUnits product (r.meters.get c).residue

/-- R31: the meters of the class after a charge. -/
def chargedMeters (m : Meters) (product len : Nat) : Meters where
  bytes := addSaturating Config.max48 m.bytes len
  frames := addSaturating Config.max40 m.frames 1
  accrued := addSaturating Config.max48 m.accrued (chargeUnits product m.residue)
  residue := chargeResidue product m.residue

/-- R31: a meter of the class would pass its maximum. -/
def metersSaturate (m : Meters) (product len : Nat) : Bool :=
  saturates Config.max48 m.bytes len || saturates Config.max40 m.frames 1
    || saturates Config.max48 m.accrued (chargeUnits product m.residue)

/-- R3: a state open for traffic follows the balances; another stays. -/
def stateFor (x : TenantState) (allowance overage ceiling : Nat) : TenantState :=
  if x.openForTraffic = true then derivedState allowance overage ceiling else x

/-- R33: the overage after units are charged past an allowance. -/
def overageAfter (allowance overage units : Nat) : Nat :=
  addSaturating Config.max40 overage (units - allowance)

theorem rederive_stateFor (r : Tenant) :
    r.rederive = { r with state := stateFor r.state r.allowance r.overage r.ceiling } := by
  unfold Tenant.rederive stateFor
  split <;> rfl

section Parts
variable (r : Tenant) (product : Nat) (c : Cls) (len : Nat)

theorem chargeRecord_record : (chargeRecord r product c len).record = { r with
    meters := r.meters.set c (chargedMeters (r.meters.get c) product len)
    allowance := r.allowance - unitsOf r product c
    overage := overageAfter r.allowance r.overage (unitsOf r product c)
    saturated := r.saturated || (chargeRecord r product c len).saturatedNow
    state := stateFor r.state (r.allowance - unitsOf r product c)
      (overageAfter r.allowance r.overage (unitsOf r product c)) r.ceiling } := by
  have hdraw (a u : Nat) : a - min a u = a - u := by omega
  have hrest (a u : Nat) : u - min a u = u - a := by omega
  unfold chargeRecord
  dsimp only
  rw [rederive_stateFor]
  dsimp only
  rw [hdraw, hrest]
  rfl

theorem chargeRecord_saturatedNow : (chargeRecord r product c len).saturatedNow
    = (metersSaturate (r.meters.get c) product len
        || saturates Config.max40 r.overage (unitsOf r product c - r.allowance)) := by
  have hrest (a u : Nat) : u - min a u = u - a := by omega
  unfold chargeRecord
  dsimp only
  rw [hrest]
  rfl

theorem chargeRecord_crossedAllowance : (chargeRecord r product c len).crossedAllowance
    = (decide (0 < r.allowance) && decide (r.allowance ≤ unitsOf r product c)) := by
  have hdraw (a u : Nat) : (a - min a u == 0) = decide (a ≤ u) := by
    rw [Bool.eq_iff_iff, beq_iff_eq, decide_eq_true_iff]
    omega
  unfold chargeRecord
  dsimp only
  rw [hdraw]
  rfl

theorem chargeRecord_crossedCeiling : (chargeRecord r product c len).crossedCeiling
    = (decide (0 < r.ceiling) && decide (r.overage < r.ceiling)
        && decide (r.ceiling ≤ overageAfter r.allowance r.overage (unitsOf r product c))) := by
  have hrest (a u : Nat) : u - min a u = u - a := by omega
  unfold chargeRecord
  dsimp only
  rw [hrest]
  rfl

end Parts

/-! ### The balance (R35) -/

theorem addSaturating_of_le {limit a b : Nat} (h : a + b ≤ limit) : addSaturating limit a b = a + b :=
  Nat.min_eq_right h

theorem saturatedNow_iff {r : Tenant} {product : Nat} {c : Cls} {len : Nat} :
    (chargeRecord r product c len).saturatedNow = true ↔
      281474976710655 < (r.meters.get c).bytes + len
      ∨ 1099511627775 < (r.meters.get c).frames + 1
      ∨ 281474976710655 < (r.meters.get c).accrued + unitsOf r product c
      ∨ 1099511627775 < r.overage + (unitsOf r product c - r.allowance) := by
  rw [chargeRecord_saturatedNow, metersSaturate]
  simp only [Bool.or_eq_true, saturates, decide_eq_true_iff, or_assoc]
  rfl

/-- Settles O20: each field of the record after a charge, and the sum of what was drawn and what was added. -/
theorem aChargeBalances : Obligations.AChargeBalances := by
  unfold Obligations.AChargeBalances
  refine ⟨fun r product c len hsat => ⟨_, rfl, ?_⟩, fun r product c len units rest x held hx hu hrest hheld => ?_⟩
  · have hnot := mt saturatedNow_iff.mpr (Bool.eq_false_iff.mp hsat)
    obtain ⟨hbytes, hnot⟩ := not_or.mp hnot
    obtain ⟨hframes, hnot⟩ := not_or.mp hnot
    obtain ⟨haccrued, hover⟩ := not_or.mp hnot
    have hunits : ((r.meters.get c).residue + product) / 8388608 = unitsOf r product c := rfl
    have hmeters : chargedMeters (r.meters.get c) product len =
        { bytes := (r.meters.get c).bytes + len, frames := (r.meters.get c).frames + 1
          accrued := (r.meters.get c).accrued + unitsOf r product c
          residue := ((r.meters.get c).residue + product) % 8388608 } := by
      unfold chargedMeters
      rw [addSaturating_of_le (Nat.not_lt.mp hbytes), addSaturating_of_le (Nat.not_lt.mp hframes),
        addSaturating_of_le (b := chargeUnits product (r.meters.get c).residue) (Nat.not_lt.mp haccrued)]
      rfl
    have hoverage : overageAfter r.allowance r.overage (unitsOf r product c)
        = r.overage + (unitsOf r product c - r.allowance) :=
      addSaturating_of_le (Nat.not_lt.mp hover)
    rw [chargeRecord_record, hsat, hmeters, hoverage, hunits]
    dsimp only
    refine ⟨by omega, by omega, by omega, fun h => by omega, ?_, fun d hd => ?_, Bool.or_false _, ?_, ?_⟩
    · rw [PerClass.get_set, if_pos rfl]
    · rw [PerClass.get_set, if_neg hd]
    · rfl
    · rw [Bool.or_false]
  · subst hx hu hrest
    have hnow : (chargeRecord r product c len).saturatedNow = true ↔ held := saturatedNow_iff.trans hheld.symm
    rw [hnow, chargeRecord_record]
    dsimp only
    refine ⟨.rfl, by rw [Bool.or_eq_true, hnow], ?_, fun d hd => ?_, rfl, rfl, rfl, rfl, fun hacc hover => ?_⟩
    · rw [PerClass.get_set, if_pos rfl]
      rfl
    · rw [PerClass.get_set, if_neg hd]
    · rw [PerClass.get_set, if_pos rfl]
      have hacc' : (chargedMeters (r.meters.get c) product len).accrued
          = (r.meters.get c).accrued + ((r.meters.get c).residue + product) / 8388608 :=
        addSaturating_of_le hacc
      have hover' : overageAfter r.allowance r.overage (unitsOf r product c)
          = r.overage + (((r.meters.get c).residue + product) / 8388608 - r.allowance) :=
        addSaturating_of_le hover
      have hunits : unitsOf r product c = ((r.meters.get c).residue + product) / 8388608 := rfl
      rw [hacc', hover', hunits]
      omega

/-! ### Two charges (R37) -/

theorem addSaturating_addSaturating (limit a b c : Nat) :
    addSaturating limit (addSaturating limit a b) c = addSaturating limit a (b + c) := by
  unfold addSaturating
  omega

theorem saturates_or_saturates (limit a b c : Nat) :
    (saturates limit a b || saturates limit (addSaturating limit a b) c) = saturates limit a (b + c) := by
  unfold saturates addSaturating
  rw [Bool.eq_iff_iff, Bool.or_eq_true]
  simp only [decide_eq_true_iff]
  omega

/-- R28: two charges of one class make the units and the residue of their sum. -/
theorem chargeUnits_add (x y residue : Nat) :
    chargeUnits x residue + chargeUnits y (chargeResidue x residue) = chargeUnits (x + y) residue := by
  unfold chargeUnits chargeResidue
  omega

theorem chargeResidue_chargeResidue (x y residue : Nat) :
    chargeResidue y (chargeResidue x residue) = chargeResidue (x + y) residue := by
  unfold chargeResidue
  omega

theorem chargedMeters_comm (m : Meters) (x y lx ly : Nat) :
    chargedMeters (chargedMeters m x lx) y ly = chargedMeters (chargedMeters m y ly) x lx := by
  unfold chargedMeters
  dsimp only
  simp only [addSaturating_addSaturating, chargeUnits_add, chargeResidue_chargeResidue,
    Nat.add_comm y x, Nat.add_comm ly lx]

theorem metersSaturate_comm (m : Meters) (x y lx ly : Nat) :
    (metersSaturate m x lx || metersSaturate (chargedMeters m x lx) y ly)
      = (metersSaturate m y ly || metersSaturate (chargedMeters m y ly) x lx) := by
  have hboth (x y lx ly : Nat) : (metersSaturate m x lx || metersSaturate (chargedMeters m x lx) y ly)
      = (saturates Config.max48 m.bytes (lx + ly) || saturates Config.max40 m.frames 2
          || saturates Config.max48 m.accrued (chargeUnits (x + y) m.residue)) := by
    rw [← saturates_or_saturates, ← saturates_or_saturates (b := 1) (c := 1), ← chargeUnits_add,
      ← saturates_or_saturates]
    unfold metersSaturate chargedMeters
    dsimp only
    ac_rfl
  rw [hboth, hboth, Nat.add_comm ly, Nat.add_comm y]

section Both
variable (r : Tenant) (x y : Nat) (c d : Cls) (lx ly : Nat)

/-- The units of the two charges, the second after the first. -/
theorem unitsOf_after : unitsOf r x c + unitsOf (chargeRecord r x c lx).record y d
    = if c = d then chargeUnits (x + y) (r.meters.get c).residue else unitsOf r x c + unitsOf r y d := by
  unfold unitsOf
  rw [chargeRecord_record]
  dsimp only
  rw [PerClass.get_set]
  split
  · next h => rw [if_pos h.symm]; exact chargeUnits_add x y _
  · next h => rw [if_neg (Ne.symm h)]

theorem unitsOf_after_comm : unitsOf r x c + unitsOf (chargeRecord r x c lx).record y d
    = unitsOf r y d + unitsOf (chargeRecord r y d ly).record x c := by
  rw [unitsOf_after, unitsOf_after]
  by_cases h : c = d
  · rw [if_pos h, if_pos h.symm, Nat.add_comm y, h]
  · rw [if_neg h, if_neg (Ne.symm h), Nat.add_comm]

theorem set_chargedMeters_comm :
    (r.meters.set c (chargedMeters (r.meters.get c) x lx)).set d
        (chargedMeters ((r.meters.set c (chargedMeters (r.meters.get c) x lx)).get d) y ly)
      = (r.meters.set d (chargedMeters (r.meters.get d) y ly)).set c
        (chargedMeters ((r.meters.set d (chargedMeters (r.meters.get d) y ly)).get c) x lx) := by
  refine PerClass.ext_get fun e => ?_
  simp only [PerClass.get_set]
  by_cases h : c = d
  · subst h
    rw [if_pos rfl, if_pos rfl, chargedMeters_comm]
    split <;> rfl
  · rw [if_neg h, if_neg (Ne.symm h)]
    by_cases hd : e = d
    · rw [if_pos hd, if_neg (fun hc => h (hc.symm.trans hd)), if_pos hd]
    · rw [if_neg hd, if_neg hd]

/-- R31, R33: the overage after both charges is that of their sum. -/
theorem overageAfter_overageAfter (a o u v : Nat) :
    overageAfter (a - u) (overageAfter a o u) v = overageAfter a o (u + v) := by
  unfold overageAfter
  rw [addSaturating_addSaturating]
  congr 1
  omega

/-- A state is open for traffic before a charge exactly when it is after. -/
theorem stateFor_stateFor (z : TenantState) (a o a' o' k : Nat) :
    stateFor (stateFor z a o k) a' o' k = stateFor z a' o' k := by
  unfold stateFor
  split
  · rw [if_pos (derivedState_open _ _ _)]
  · rfl

/-- The record after two charges, its money that of the units of both. -/
theorem chargeRecord_twice : (chargeRecord (chargeRecord r x c lx).record y d ly).record = { r with
    meters := (r.meters.set c (chargedMeters (r.meters.get c) x lx)).set d
      (chargedMeters ((r.meters.set c (chargedMeters (r.meters.get c) x lx)).get d) y ly)
    allowance := r.allowance - (unitsOf r x c + unitsOf (chargeRecord r x c lx).record y d)
    overage := overageAfter r.allowance r.overage (unitsOf r x c + unitsOf (chargeRecord r x c lx).record y d)
    saturated := r.saturated || ((chargeRecord r x c lx).saturatedNow
      || (chargeRecord (chargeRecord r x c lx).record y d ly).saturatedNow)
    state := stateFor r.state (r.allowance - (unitsOf r x c + unitsOf (chargeRecord r x c lx).record y d))
      (overageAfter r.allowance r.overage (unitsOf r x c + unitsOf (chargeRecord r x c lx).record y d))
      r.ceiling } := by
  rw [chargeRecord_record (chargeRecord r x c lx).record]
  generalize (chargeRecord (chargeRecord r x c lx).record y d ly).saturatedNow = b
  generalize unitsOf (chargeRecord r x c lx).record y d = u
  rw [chargeRecord_record r]
  dsimp only
  rw [overageAfter_overageAfter, stateFor_stateFor, Nat.sub_sub, Bool.or_assoc]

/-- R31, R33: what a charge saturates, the class's meters apart from the money. -/
theorem saturatedNow_twice : ((chargeRecord r x c lx).saturatedNow
      || (chargeRecord (chargeRecord r x c lx).record y d ly).saturatedNow)
    = ((metersSaturate (r.meters.get c) x lx
          || metersSaturate ((r.meters.set c (chargedMeters (r.meters.get c) x lx)).get d) y ly)
        || saturates Config.max40 r.overage
          (unitsOf r x c + unitsOf (chargeRecord r x c lx).record y d - r.allowance)) := by
  have hrest (a u v : Nat) : (u - a) + (v - (a - u)) = u + v - a := by omega
  rw [chargeRecord_saturatedNow, chargeRecord_saturatedNow (chargeRecord r x c lx).record]
  generalize unitsOf (chargeRecord r x c lx).record y d = v
  rw [chargeRecord_record r]
  dsimp only
  rw [← hrest, ← saturates_or_saturates]
  unfold overageAfter
  ac_rfl

theorem saturatedNow_twice_comm : ((chargeRecord r x c lx).saturatedNow
      || (chargeRecord (chargeRecord r x c lx).record y d ly).saturatedNow)
    = ((chargeRecord r y d ly).saturatedNow
      || (chargeRecord (chargeRecord r y d ly).record x c lx).saturatedNow) := by
  rw [saturatedNow_twice, saturatedNow_twice, unitsOf_after_comm]
  congr 1
  rw [PerClass.get_set, PerClass.get_set]
  by_cases h : c = d
  · subst h
    rw [if_pos rfl, if_pos rfl, metersSaturate_comm]
  · rw [if_neg (Ne.symm h), if_neg h, Bool.or_comm]

/-- R32: the allowance reaches 0 once, whichever charge takes the last unit. -/
theorem crossedAllowance_twice : ((chargeRecord r x c lx).crossedAllowance
      || (chargeRecord (chargeRecord r x c lx).record y d ly).crossedAllowance)
    = (decide (0 < r.allowance)
        && decide (r.allowance ≤ unitsOf r x c + unitsOf (chargeRecord r x c lx).record y d)) := by
  rw [chargeRecord_crossedAllowance, chargeRecord_crossedAllowance (chargeRecord r x c lx).record]
  generalize unitsOf (chargeRecord r x c lx).record y d = v
  rw [chargeRecord_record r]
  dsimp only
  rw [Bool.eq_iff_iff]
  simp only [Bool.or_eq_true, Bool.and_eq_true, decide_eq_true_iff]
  omega

/-- R34: the ceiling is reached once, since the overage does not fall. -/
theorem crossedCeiling_twice (h : r.overage ≤ 1099511627775) : ((chargeRecord r x c lx).crossedCeiling
      || (chargeRecord (chargeRecord r x c lx).record y d ly).crossedCeiling)
    = (decide (0 < r.ceiling) && decide (r.overage < r.ceiling)
        && decide (r.ceiling ≤ overageAfter r.allowance r.overage
          (unitsOf r x c + unitsOf (chargeRecord r x c lx).record y d))) := by
  rw [chargeRecord_crossedCeiling, chargeRecord_crossedCeiling (chargeRecord r x c lx).record,
    ← overageAfter_overageAfter]
  generalize unitsOf (chargeRecord r x c lx).record y d = v
  rw [chargeRecord_record r]
  dsimp only
  have hfirst : r.overage ≤ overageAfter r.allowance r.overage (unitsOf r x c) :=
    Nat.le_min.mpr ⟨h, Nat.le_add_right _ _⟩
  have hsecond (a o u : Nat) : overageAfter a (overageAfter r.allowance r.overage o) u
      ≥ overageAfter r.allowance r.overage o :=
    Nat.le_min.mpr ⟨Nat.min_le_left _ _, Nat.le_add_right _ _⟩
  have hsecond := hsecond (r.allowance - unitsOf r x c) (unitsOf r x c) v
  rw [Bool.eq_iff_iff]
  simp only [Bool.or_eq_true, Bool.and_eq_true, decide_eq_true_iff]
  omega

end Both

/-- Settles O21: both orders make the same units in all, and every other part depends on them alone. -/
theorem chargesOfOneTenantCommute : Obligations.ChargesOfOneTenantCommute := by
  unfold Obligations.ChargesOfOneTenantCommute
  rintro r x y c d lx ly ⟨-, hover, -⟩
  have hunits := unitsOf_after_comm r x y c d lx ly
  refine ⟨?_, ?_, ?_, saturatedNow_twice_comm r x y c d lx ly⟩
  · rw [chargeRecord_twice, chargeRecord_twice, hunits, set_chargedMeters_comm, saturatedNow_twice_comm]
  · rw [crossedAllowance_twice, crossedAllowance_twice, hunits]
  · rw [crossedCeiling_twice _ _ _ _ _ _ _ hover, crossedCeiling_twice _ _ _ _ _ _ _ hover, hunits]

end Sys2Proof.Proofs.Charges

/-! The station table (04_station_table.md): lookup, learning, and the requests on it. -/

namespace Sys2Proof.Proofs.StationRequests

open Sys2Proof Sys2Proof.Machine Sys2Proof.Safety Sys2Proof.Proofs.Outcomes Sys2Proof.Proofs.Stations
  Sys2Proof.Proofs.TenantRequests Sys2Proof.Proofs.StationLaws

/-! ### Lookup and learning (R63, R65, R68, R69) -/

section Lookup
variable {s : State} {t : Nat} {a : Addr} {i : Nat} {e : Entry}

theorem lookup_of_found (h : s.findEntry t a = some (i, e)) :
    s.lookup t a = if s.reachable e.target = true then some e.target else none := by
  unfold State.lookup
  rw [h]

theorem lookup_of_none (h : s.findEntry t a = none) : s.lookup t a = none := by
  unfold State.lookup
  rw [h]

theorem reachable_downlink {p : Fin 32} : s.reachable (.downlink p) = true ↔ (s.port p).link = .up := beq_iff_eq

theorem lookup_isSome (h : s.findEntry t a = some (i, e)) :
    (s.lookup t a).isSome = s.reachable e.target := by
  rw [lookup_of_found h]
  cases s.reachable e.target <;> rfl

theorem learn_of_none (q : Fin 32) (h : s.findEntry t a = none) :
    learn t a q s = if s.flushOutstanding q = true then s else learnNew t a q s := by
  unfold learn
  rw [h]

theorem learn_of_static (q : Fin 32) (h : s.findEntry t a = some (i, e)) (hk : e.kind = .static) :
    learn t a q s = s := by
  unfold learn
  rw [h]
  dsimp only
  rw [hk]

theorem learn_of_learned (q : Fin 32) (h : s.findEntry t a = some (i, e)) (hk : e.kind = .learned) :
    learn t a q s = if e.target = .downlink q then s.setStation i (some { e with lastSeen := s.second })
      else if s.flushOutstanding q = true then s
      else s.setStation i (some { e with target := .downlink q, lastSeen := s.second }) := by
  unfold learn
  rw [h]
  dsimp only
  rw [hk]

end Lookup

/-- Settles O25, from the search of a bucket and the branches of learning. -/
theorem learningAndLookupReadTheBucket : Obligations.LearningAndLookupReadTheBucket := by
  unfold Obligations.LearningAndLookupReadTheBucket
  refine ⟨fun s t a => ⟨fun i e h => ?_, fun h => ⟨lookup_of_none h, fun i e hb he => findEntry_none h hb he⟩,
    fun i h => ?_, fun h i hb => freeSlot_none h hb⟩, fun s t a q => ⟨fun i e h => ?_, fun h hf => ?_,
      fun i h hf hi hroom => ?_, fun h hfull => ?_⟩⟩
  · obtain ⟨hb, he, htenant, haddress⟩ := findEntry_some h
    refine ⟨hb, bucketSlot_lt hb, he, htenant, haddress, fun n hn => ?_, fun p hp hup => ?_, fun p hp hup => ?_⟩
    · rw [lookup_of_found h, hn]
      rfl
    · rw [lookup_of_found h, hp, if_pos (reachable_downlink.mpr hup)]
    · rw [lookup_of_found h, hp, if_neg (mt reachable_downlink.mp hup)]
  · obtain ⟨hb, hfree, hlow⟩ := freeSlot_some h
    exact ⟨hb, bucketSlot_lt hb, hfree, hlow⟩
  · refine ⟨learn_of_static q h, fun hk ht => ?_, fun hk ht hf => ?_, fun hk ht hf => ?_⟩
    · rw [learn_of_learned q h hk, if_pos ht]
    · rw [learn_of_learned q h hk, if_neg ht, hf]
      rfl
    · rw [learn_of_learned q h hk, if_neg ht, if_pos hf]
  · rw [learn_of_none q h, if_pos hf]
  · rw [learn_of_none q h, hf, learnNew, hi]
    exact if_pos hroom
  · rw [learn_of_none q h, learnNew]
    split
    · rfl
    · rcases hfull with hi | hfull
      · rw [hi]
      · rcases s.freeSlot t a with _ | i
        · rfl
        · exact if_neg (Nat.not_lt.mpr hfull)

/-! ### The operands (R190) -/

/-- R190: bits 9 to 8 of a word. -/
theorem kindBits_iff (w : Word) (k : Nat) (_ : k < 4) :
    w.extractLsb' 8 2 = BitVec.ofNat 2 k ↔ w.toNat / 256 % 4 = k := by
  rw [← BitVec.toNat_inj, BitVec.extractLsb'_toNat, BitVec.toNat_ofNat, Nat.shiftRight_eq_div_pow]
  omega

theorem setNumber_iff {n : Nat} {x : Fin 64} : setNumber n = some x ↔ n = x.val := by
  unfold setNumber
  constructor
  · intro h
    split at h
    · cases h; rfl
    · cases h
  · rintro rfl
    rw [dif_pos x.isLt]

theorem targetOf_iff {w : Word} {x : Target} : targetOf w = some x ↔
    (∃ p : Fin 32, x = .downlink p ∧ w.toNat / 256 % 4 = 1 ∧ w.toNat % 256 = p.val)
    ∨ ∃ n : Fin 64, x = .path n ∧ w.toNat / 256 % 4 = 2 ∧ w.toNat % 256 = n.val := by
  have h1 := kindBits_iff w 1 (by decide)
  have h2 := kindBits_iff w 2 (by decide)
  unfold targetOf
  dsimp only
  constructor
  · intro h
    split at h
    · next hk =>
      split at h
      · next hlt => cases h; exact .inl ⟨_, rfl, h1.mp hk, rfl⟩
      · cases h
    · split at h
      · next hk =>
        obtain ⟨n, hn, rfl⟩ := Option.map_eq_some_iff.mp h
        exact .inr ⟨n, rfl, h2.mp hk, setNumber_iff.mp hn⟩
      · cases h
  · rintro (⟨p, rfl, hk, hp⟩ | ⟨n, rfl, hk, hn⟩)
    · rw [if_pos (h1.mpr hk), dif_pos (by omega)]
      simp only [hp]
    · rw [if_neg (fun h => by have := h1.mp h; omega), if_pos (h2.mpr hk), setNumber_iff.mpr hn]
      rfl

/-- Log entry 16: bit 8 of an address's high word is the lowest bit of byte 0. -/
theorem isGroup_iff (m : Message) :
    isGroup (BitVec.ofNat 48 (num2 m 2)) = true ↔ num m 3 / 256 % 2 = 1 := by
  have hlow : num m 2 < 4294967296 := (word m 2).isLt
  have hval : num2 m 2 = num m 2 + 4294967296 * num m 3 := rfl
  unfold isGroup
  rw [BitVec.getLsbD_ofNat, Nat.testBit_eq_decide_div_mod_eq]
  simp only [Nat.reduceLT, decide_true, Bool.true_and, decide_eq_true_iff]
  omega

/-- An address of at most 48 bits is read as it stands, and no free value is drawn. -/
theorem address_of_narrow {m : Message} (d : Nat) (h : num m 3 ≤ 65535) :
    isWideAddress m 2 = false ∧ addressField d m 2 = BitVec.ofNat 48 (num2 m 2) := by
  have hw : isWideAddress m 2 = false := decide_eq_false (Nat.not_lt.mpr h)
  unfold addressField
  rw [hw]
  exact ⟨rfl, rfl⟩

/-! ### STATION_INSERT (R71, R72) -/

section Insert
variable {s : State} {t : Nat} {a : Addr} {x : Target}

theorem insertEntry_of_found {i : Nat} {e : Entry} (h : s.findEntry t a = some (i, e)) :
    insertEntry t a x s = ⟨.done, [out i, 1#32, outKind e.kind, outTarget e.target],
      s.setStation i (some (insertedEntry t a x s.second))⟩ := by
  unfold insertEntry
  dsimp only
  rw [h]
  rfl

theorem insertEntry_of_none (h : s.findEntry t a = none) (hf : s.freeSlot t a = none) :
    insertEntry t a x s = refuseWith .bucketFull s := by
  unfold insertEntry
  dsimp only
  rw [h, hf]

theorem insertEntry_of_free {i : Nat} (h : s.findEntry t a = none) (hf : s.freeSlot t a = some i) :
    insertEntry t a x s = if (s.tenant t).stationLimit ≤ (s.tenant t).stationCount then refuseWith .limit s
      else ⟨.done, [out i, 0#32, 0#32, 0#32],
        (s.setStation i (some (insertedEntry t a x s.second))).setTenant t
          { s.tenant t with stationCount := (s.tenant t).stationCount + 1 }⟩ := by
  unfold insertEntry
  dsimp only
  rw [h, hf]
  rfl

end Insert

section Requests
variable {s : State} {m : Message}

theorem stationInsertEffect_malformed (hn : num m 3 ≤ 65535)
    (h : 1024 ≤ num m 1 ∨ isGroup (BitVec.ofNat 48 (num2 m 2)) = true ∨ targetOf (word m 4) = none) :
    stationInsertEffect m s = refuseWith .malformed s := by
  obtain ⟨hw, ha⟩ := address_of_narrow s.draws hn
  unfold stationInsertEffect
  rw [hw, ha]
  rcases hx : targetOf (word m 4) with _ | x
  · rfl
  · rw [hx] at h
    refine if_pos ?_
    rcases h with h | h | h
    · exact .inl h
    · exact .inr h
    · cases h

theorem stationInsertEffect_of_target {x : Target} (hn : num m 3 ≤ 65535) (ht : num m 1 < 1024)
    (hg : isGroup (BitVec.ofNat 48 (num2 m 2)) = false) (hx : targetOf (word m 4) = some x) :
    stationInsertEffect m s = if (s.tenant (num m 1)).state = .vacant then refuseWith .noTenant s
      else if (s.tenant (num m 1)).state = .draining then refuseWith .badState s
      else insertEntry (num m 1) (BitVec.ofNat 48 (num2 m 2)) x s := by
  obtain ⟨hw, ha⟩ := address_of_narrow s.draws hn
  unfold stationInsertEffect
  rw [hw, ha, hx]
  refine if_neg ?_
  rw [hg]
  rintro (h | h)
  · omega
  · cases h

end Requests

/-- Settles O26: the operands, the refusals in order, and the entry written in place or in the lowest free way. -/
theorem stationInsertWritesAStaticEntry : Obligations.StationInsertWritesAStaticEntry := by
  unfold Obligations.StationInsertWritesAStaticEntry
  refine ⟨fun w x => targetOf_iff, fun m a _ ha => ?_, fun p n => ⟨rfl, rfl⟩, ⟨rfl, rfl⟩,
    fun s m keep a hrun hn ha => ?_⟩
  · rw [ha, isGroup_iff]
  · subst ha
    refine ⟨fun h => answer_of_refusal hrun (stationInsertEffect_malformed hn h), fun x ht hg hx => ?_⟩
    have heffect := stationInsertEffect_of_target (s := s) hn ht hg hx
    refine ⟨fun hv => ?_, fun hd => ?_, fun hin => ?_⟩
    · exact answer_of_refusal hrun (heffect.trans (if_pos hv))
    · exact answer_of_refusal hrun (heffect.trans (by rw [hd]; rfl))
    · rw [if_neg (fun h => by rw [h] at hin; cases hin), if_neg (not_draining_of_inContract hin)] at heffect
      refine ⟨fun i e h => ?_, fun h hf => ?_, fun i h hf => ⟨fun hfull => ?_, fun hroom => ?_⟩⟩
      · exact answer_of_effect hrun (heffect.trans (insertEntry_of_found h))
      · exact answer_of_refusal hrun (heffect.trans (insertEntry_of_none h hf))
      · exact answer_of_refusal hrun (heffect.trans ((insertEntry_of_free h hf).trans (if_pos hfull)))
      · exact answer_of_effect hrun
          (heffect.trans ((insertEntry_of_free h hf).trans (if_neg (Nat.not_le.mpr hroom))))

/-! ### STATION_FIND, STATION_REMOVE and STATION_AGING (R73, R74, R77) -/

theorem clampAging_eq (n : Nat) :
    clampAging n = if n < 10 then 300 else if 3600 < n then 3600 else n := by
  unfold clampAging
  split
  · rfl
  · split <;> omega

theorem clampPinExpiry_eq (n : Nat) : clampPinExpiry n = if n = 0 then 1 else if 60 < n then 60 else n := by
  unfold clampPinExpiry
  split
  · rfl
  · split <;> omega

section Effects
variable {s : State} {m : Message} {i : Nat} {e : Entry}

theorem stationFindEffect_malformed (hn : num m 3 ≤ 65535) (h : 1024 ≤ num m 1) :
    stationFindEffect m s = refuseWith .malformed s := by
  obtain ⟨hw, -⟩ := address_of_narrow s.draws hn
  unfold stationFindEffect
  rw [hw]
  exact if_pos h

theorem stationFindEffect_none (hn : num m 3 ≤ 65535) (h : num m 1 < 1024)
    (hf : s.findEntry (num m 1) (BitVec.ofNat 48 (num2 m 2)) = none) :
    stationFindEffect m s = refuseWith .notFound s := by
  obtain ⟨hw, ha⟩ := address_of_narrow s.draws hn
  unfold stationFindEffect
  rw [hw, ha, State.drawn, if_neg Bool.false_ne_true]
  dsimp only
  rw [if_neg (Nat.not_le.mpr h), hf]

theorem stationFindEffect_found (hn : num m 3 ≤ 65535) (h : num m 1 < 1024)
    (hf : s.findEntry (num m 1) (BitVec.ofNat 48 (num2 m 2)) = some (i, e)) :
    stationFindEffect m s = ⟨.done, [out i, outKind e.kind, outTarget e.target, out e.lastSeen,
      outFlag (s.lookup (num m 1) (BitVec.ofNat 48 (num2 m 2))).isSome], s⟩ := by
  obtain ⟨hw, ha⟩ := address_of_narrow s.draws hn
  rw [lookup_isSome hf]
  unfold stationFindEffect
  rw [hw, ha, State.drawn, if_neg Bool.false_ne_true]
  dsimp only
  rw [if_neg (Nat.not_le.mpr h), hf]

theorem stationRemoveEffect_malformed (hn : num m 3 ≤ 65535) (h : 1024 ≤ num m 1) :
    stationRemoveEffect m s = refuseWith .malformed s := by
  obtain ⟨hw, -⟩ := address_of_narrow s.draws hn
  unfold stationRemoveEffect
  rw [hw]
  exact if_pos h

theorem stationRemoveEffect_none (hn : num m 3 ≤ 65535) (h : num m 1 < 1024)
    (hf : s.findEntry (num m 1) (BitVec.ofNat 48 (num2 m 2)) = none) :
    stationRemoveEffect m s = refuseWith .notFound s := by
  obtain ⟨hw, ha⟩ := address_of_narrow s.draws hn
  unfold stationRemoveEffect
  rw [hw, ha, State.drawn, if_neg Bool.false_ne_true]
  dsimp only
  rw [if_neg (Nat.not_le.mpr h), hf]

/-- R74: the entry removed bears the key, so the count that falls is its tenant's. -/
theorem stationRemoveEffect_found (hn : num m 3 ≤ 65535) (h : num m 1 < 1024)
    (hf : s.findEntry (num m 1) (BitVec.ofNat 48 (num2 m 2)) = some (i, e)) :
    stationRemoveEffect m s = ⟨.done, [out i, outKind e.kind, outTarget e.target, out e.lastSeen],
      (s.setStation i none).setTenant (num m 1)
        { s.tenant (num m 1) with stationCount := (s.tenant (num m 1)).stationCount - 1 }⟩ := by
  obtain ⟨hw, ha⟩ := address_of_narrow s.draws hn
  obtain ⟨-, -, htenant, -⟩ := findEntry_some hf
  unfold stationRemoveEffect
  rw [hw, ha, State.drawn, if_neg Bool.false_ne_true]
  dsimp only
  rw [if_neg (Nat.not_le.mpr h), hf]
  dsimp only
  rw [removeEntry, htenant]

end Effects

theorem doneStatus_eq {b : Bool} {p : Prop} [Decidable p] (h : b = false ↔ p) :
    doneStatus b = if p then .done else .doneClamped := by
  cases b
  · rw [if_pos (h.mp rfl)]
    rfl
  · rw [if_neg (mt h.mpr Bool.noConfusion)]
    rfl

/-- Settles O27: the two requests read the bucket of the key, and the settings are clamped. -/
theorem stationRequestsAnswerAndLoad : Obligations.StationRequestsAnswerAndLoad := by
  unfold Obligations.StationRequestsAnswerAndLoad
  refine ⟨fun s m keep a hn ha => ?_, fun s m keep hrun _ _ =>
    ⟨clampAging (num m 1), clampPinExpiry (num m 2), clampAging_eq _, clampPinExpiry_eq _, ?_⟩⟩
  · subst ha
    exact ⟨fun hrun => ⟨fun h => answer_of_refusal hrun (stationFindEffect_malformed hn h),
        fun h hf => answer_of_refusal hrun (stationFindEffect_none hn h hf),
        fun i e h hf => answer_of_effect hrun (stationFindEffect_found hn h hf)⟩,
      fun hrun => ⟨fun h => answer_of_refusal hrun (stationRemoveEffect_malformed hn h),
        fun h hf => answer_of_refusal hrun (stationRemoveEffect_none hn h hf),
        fun i e h hf => answer_of_effect hrun (stationRemoveEffect_found hn h hf)⟩⟩
  · refine answer_of_effect hrun ?_
    unfold stationAgingEffect
    rw [doneStatus_eq (p := clampAging (num m 1) = num m 1 ∧ clampPinExpiry (num m 2) = num m 2)
      (by rw [Bool.or_eq_false_iff, bne_eq_false_iff_eq, bne_eq_false_iff_eq])]

end Sys2Proof.Proofs.StationRequests

/-! Frame intake (03_frame_intake.md): what is read from a frame, and the copies it becomes. -/

namespace Sys2Proof.Proofs.FrameIntake

open Sys2Proof Sys2Proof.Machine Sys2Proof.Safety Sys2Proof.Proofs.Outcomes Sys2Proof.Proofs.Effects
  Sys2Proof.Proofs.Stations

/-! ### The bytes of a frame (R44, R189) -/

section Bytes
variable (bytes : List Byte)

theorem frameByte_lt (i : Nat) : frameByte bytes i < 256 := (bytes.getD i 0#8).isLt

theorem frameField_two (i : Nat) :
    frameField bytes i 2 = 256 * frameByte bytes i + frameByte bytes (i + 1) := by
  simp [frameField, List.range_succ]

theorem frameField_four (i : Nat) :
    frameField bytes i 4 = 16777216 * frameByte bytes i + 65536 * frameByte bytes (i + 1)
      + 256 * frameByte bytes (i + 2) + frameByte bytes (i + 3) := by
  simp only [frameField, List.range_succ, List.range_zero, List.nil_append, List.cons_append,
    List.foldl_cons, List.foldl_nil, Nat.add_zero]
  omega

theorem frameField_six (i : Nat) :
    frameField bytes i 6 = 1099511627776 * frameByte bytes i + 4294967296 * frameByte bytes (i + 1)
      + 16777216 * frameByte bytes (i + 2) + 65536 * frameByte bytes (i + 3)
      + 256 * frameByte bytes (i + 4) + frameByte bytes (i + 5) := by
  simp only [frameField, List.range_succ, List.range_zero, List.nil_append, List.cons_append,
    List.foldl_cons, List.foldl_nil, Nat.add_zero]
  omega

/-- Six bytes from a place, as an address and back. -/
theorem address_toNat (i : Nat) :
    (BitVec.ofNat 48 (frameField bytes i 6)).toNat = 1099511627776 * frameByte bytes i
      + 4294967296 * frameByte bytes (i + 1) + 16777216 * frameByte bytes (i + 2)
      + 65536 * frameByte bytes (i + 3) + 256 * frameByte bytes (i + 4) + frameByte bytes (i + 5) := by
  have h0 := frameByte_lt bytes i
  have h1 := frameByte_lt bytes (i + 1)
  have h2 := frameByte_lt bytes (i + 2)
  have h3 := frameByte_lt bytes (i + 3)
  have h4 := frameByte_lt bytes (i + 4)
  have h5 := frameByte_lt bytes (i + 5)
  rw [BitVec.toNat_ofNat, frameField_six]
  omega

theorem label_toNat (i : Nat) :
    (BitVec.ofNat 32 (frameField bytes i 4)).toNat = 16777216 * frameByte bytes i
      + 65536 * frameByte bytes (i + 1) + 256 * frameByte bytes (i + 2) + frameByte bytes (i + 3) := by
  have h0 := frameByte_lt bytes i
  have h1 := frameByte_lt bytes (i + 1)
  have h2 := frameByte_lt bytes (i + 2)
  have h3 := frameByte_lt bytes (i + 3)
  rw [BitVec.toNat_ofNat, frameField_four]
  omega

/-- The bytes of a list from a place, each by its index. -/
theorem take_drop_eq {i n : Nat} (h : i + n ≤ bytes.length) :
    (bytes.drop i).take n = (List.range n).map fun j => bytes.getD (i + j) 0#8 := by
  refine List.ext_getElem (by simp; omega) fun j hj _ => ?_
  have hj : j < n := by simpa using Nat.lt_of_lt_of_le hj (by simp)
  rw [List.getElem_take, List.getElem_drop, List.getElem_map, List.getElem_range,
    List.getD_eq_getElem _ _ (by omega)]

theorem byte_of_toNat {w : Nat} {x : BitVec w} {i k : Nat} (h : x.toNat / 2 ^ k % 256 = frameByte bytes i) :
    x.extractLsb' k 8 = bytes.getD i 0#8 := by
  apply BitVec.eq_of_toNat_eq
  rw [BitVec.extractLsb'_toNat, Nat.shiftRight_eq_div_pow]
  exact h

/-- An address in wire order is the bytes it was read from. -/
theorem addrBytes_address {i : Nat} (h : i + 6 ≤ bytes.length) :
    addrBytes (BitVec.ofNat 48 (frameField bytes i 6)) = (bytes.drop i).take 6 := by
  have hval := address_toNat bytes i
  have h0 := frameByte_lt bytes i
  have h1 := frameByte_lt bytes (i + 1)
  have h2 := frameByte_lt bytes (i + 2)
  have h3 := frameByte_lt bytes (i + 3)
  have h4 := frameByte_lt bytes (i + 4)
  have h5 := frameByte_lt bytes (i + 5)
  generalize BitVec.ofNat 48 (frameField bytes i 6) = a at hval
  rw [take_drop_eq bytes h]
  unfold addrBytes
  rw [byte_of_toNat bytes (i := i) (by omega), byte_of_toNat bytes (i := i + 1) (by omega),
    byte_of_toNat bytes (i := i + 2) (by omega), byte_of_toNat bytes (i := i + 3) (by omega),
    byte_of_toNat bytes (i := i + 4) (by omega), byte_of_toNat bytes (i := i + 5) (by omega)]
  rfl

theorem wordBytes_label {i : Nat} (h : i + 4 ≤ bytes.length) :
    wordBytes (BitVec.ofNat 32 (frameField bytes i 4)) = (bytes.drop i).take 4 := by
  have hval := label_toNat bytes i
  have h0 := frameByte_lt bytes i
  have h1 := frameByte_lt bytes (i + 1)
  have h2 := frameByte_lt bytes (i + 2)
  have h3 := frameByte_lt bytes (i + 3)
  generalize BitVec.ofNat 32 (frameField bytes i 4) = a at hval
  rw [take_drop_eq bytes h]
  unfold wordBytes
  rw [byte_of_toNat bytes (i := i) (by omega), byte_of_toNat bytes (i := i + 1) (by omega),
    byte_of_toNat bytes (i := i + 2) (by omega), byte_of_toNat bytes (i := i + 3) (by omega)]
  rfl

theorem isGroup_address (i : Nat) :
    isGroup (BitVec.ofNat 48 (frameField bytes i 6)) = true ↔ frameByte bytes i % 2 = 1 := by
  have hval := address_toNat bytes i
  have h1 := frameByte_lt bytes (i + 1)
  have h2 := frameByte_lt bytes (i + 2)
  have h3 := frameByte_lt bytes (i + 3)
  have h4 := frameByte_lt bytes (i + 4)
  have h5 := frameByte_lt bytes (i + 5)
  unfold isGroup
  rw [BitVec.getLsbD, Nat.testBit_eq_decide_div_mod_eq, decide_eq_true_iff]
  omega

theorem isPauseMessage_iff : isPauseMessage bytes = true ↔
    14 ≤ bytes.length ∧ frameByte bytes 12 = 0xB7 ∧ frameByte bytes 13 = 0xA5 := by
  have h12 := frameByte_lt bytes 12
  have h13 := frameByte_lt bytes 13
  have hfield : frameField bytes 12 2 = 256 * frameByte bytes 12 + frameByte bytes 13 := frameField_two bytes 12
  unfold isPauseMessage
  rw [Bool.and_eq_true, decide_eq_true_iff, beq_iff_eq, hfield]
  refine and_congr_right fun _ => ⟨fun h => ⟨?_, ?_⟩, fun h => ?_⟩ <;> omega

end Bytes

theorem number_ofBits (b : BitVec 2) : (Cls.ofBits b).number = b.toNat := by
  revert b
  decide

theorem byteBit_iff {n k : Nat} (hk : k < 8) :
    (BitVec.ofNat 8 n).getLsbD k = true ↔ n / 2 ^ k % 2 = 1 := by
  rw [BitVec.getLsbD_ofNat, Nat.testBit_eq_decide_div_mod_eq]
  simp [hk]

/-- "The station bucket" and "The flow hash" over the bytes of a frame in wire order. -/
theorem hashes_readFrame {bytes : List Byte} (h : 20 ≤ bytes.length) :
    flowHash (readFrame bytes).tenant (readFrame bytes).dst (readFrame bytes).src (readFrame bytes).label
        = crc32 (tenantBytes (readFrame bytes).tenant ++ bytes.take 12 ++ (bytes.drop 16).take 4)
      ∧ stationBucket (readFrame bytes).tenant (readFrame bytes).dst
        = (crc32 (tenantBytes (readFrame bytes).tenant ++ bytes.take 6)).toNat % 4096
      ∧ stationBucket (readFrame bytes).tenant (readFrame bytes).src
        = (crc32 (tenantBytes (readFrame bytes).tenant ++ (bytes.drop 6).take 6)).toNat % 4096 := by
  have hdst : addrBytes (readFrame bytes).dst = bytes.take 6 := addrBytes_address bytes (i := 0) (by omega)
  have hsrc : addrBytes (readFrame bytes).src = (bytes.drop 6).take 6 := addrBytes_address bytes (by omega)
  have hlabel : wordBytes (readFrame bytes).label = (bytes.drop 16).take 4 := wordBytes_label bytes (by omega)
  have hsplit : bytes.take 12 = bytes.take 6 ++ (bytes.drop 6).take 6 := List.take_add (i := 6) (j := 6)
  refine ⟨?_, ?_, ?_⟩
  · rw [flowHash, hdst, hsrc, hlabel, hsplit, List.append_assoc (tenantBytes _)]
  · rw [stationBucket, hdst]
  · rw [stationBucket, hsrc]

/-! ### The checks (R43, R45) -/

section Checks
variable {s : State} {p : Fin 40} {checkGood : Bool} {bytes : List Byte}

theorem openForTraffic_iff {x : TenantState} :
    x.openForTraffic = true ↔ x ∈ [.active, .overage, .throttled] := by
  cases x <;> decide

theorem delivers_iff {p : Nat} :
    s.delivers p checkGood bytes = true ↔ FrameHandedOver s p checkGood bytes := by
  unfold State.delivers FrameHandedOver
  rw [Bool.and_eq_true, Bool.and_eq_true, beq_iff_eq, Bool.not_eq_true', and_assoc]

theorem accepts_iff : s.accepts p bytes = true ↔ FrameAccepted s p bytes := by
  unfold State.accepts FrameAccepted
  simp only [Bool.and_eq_true, Bool.or_eq_true, decide_eq_true_iff, beq_iff_eq, openForTraffic_iff,
    and_assoc, ← Nat.not_lt (a := p.val), ← imp_iff_not_or]

end Checks

/-! ### The copies (R52 to R59) -/

/-- The copies of an accepted frame, by the state after the learning. -/
def copiesOf (s : State) (p : Fin 40) (bytes : List Byte) : List Copy :=
  ((learnSource p (readFrame bytes) s).destinations p (readFrame bytes)).map
    (copyRecord p bytes (s.classDecision (readFrame bytes).tenant (readFrame bytes).cls).1
      (s.classDecision (readFrame bytes).tenant (readFrame bytes).cls).2)

section Copies
variable {s : State} {p : Fin 40} {bytes : List Byte}

theorem intake_eq (p : Fin 40) (bytes : List Byte) (s : State) :
    intake p bytes s = (learnSource p (readFrame bytes) s).handOn (copiesOf s p bytes) := rfl

theorem handOn_eq (s : State) (copies : List Copy) :
    s.handOn copies = { s with inFlight := if copies = [] then s.inFlight else s.inFlight ++ [copies] } := by
  cases copies <;> rfl

/-- The places of the copies are those that the lookup after the learning gives. -/
theorem dest_copiesOf : (copiesOf s p bytes).map Copy.dest
    = (learnSource p (readFrame bytes) s).destinations p (readFrame bytes) := by
  unfold copiesOf
  rw [List.map_map]
  exact List.map_id _

theorem learnSource_of_not {f : FrameFields} (h : 32 ≤ p.val ∨ isGroup f.src = true) :
    learnSource p f s = s := by
  unfold learnSource
  split
  · next hp =>
    rcases h with h | h
    · omega
    · exact if_pos h
  · rfl

theorem learnSource_of_downlink {f : FrameFields} {q : Fin 32} (hq : q.val = p.val)
    (h : isGroup f.src = false) : learnSource p f s = learn f.tenant f.src q s := by
  have hp : p.val < 32 := hq ▸ q.isLt
  have hq' : q = ⟨p.val, hp⟩ := Fin.ext hq
  unfold learnSource
  rw [dif_pos hp, h, hq']
  rfl

/-- Learning on an accepted frame touches the table and the station counts only. -/
theorem stationEvent_learnSource (h : FrameAccepted s p bytes) :
    StationEvent s (learnSource p (readFrame bytes) s) := by
  obtain ⟨-, -, -, hopen, -⟩ := h
  unfold learnSource
  split
  · split
    · exact .written .none
    · next hg =>
      exact stationEvent_learn _ (readFrame_tenant_lt bytes) (openForTraffic_iff.mpr hopen)
        (Bool.eq_false_iff.mpr hg)
  · exact .written .none

theorem classify_of_group {f : FrameFields} (h : isGroup f.dst = true) : s.classify f = none := if_pos h

theorem classify_of_unicast {f : FrameFields} (h : isGroup f.dst = false) :
    s.classify f = s.lookup f.tenant f.dst := by
  unfold State.classify
  rw [h]
  rfl

theorem destinations_of_downlink {f : FrameFields} {q : Fin 32} (h : s.classify f = some (.downlink q)) :
    s.destinations p f = if q.val = p.val then [] else [.downlink q] := by
  unfold State.destinations
  rw [h]

theorem destinations_of_path {f : FrameFields} {n : Fin 64} (h : s.classify f = some (.path n)) :
    s.destinations p f = if p.val < 32 then [.resolve n] else [] := by
  unfold State.destinations
  rw [h]

theorem destinations_of_miss {f : FrameFields} (h : s.classify f = none) :
    s.destinations p f = (s.floodPorts f.tenant p).map .downlink
      ++ (if p.val < 32 then ((s.tenant f.tenant).defaultPath.map Dest.resolve).toList else []) := by
  unfold State.destinations
  rw [h]
  dsimp only
  rcases (s.tenant f.tenant).defaultPath with _ | n <;> rfl

theorem mem_floodPorts {x : Nat} {q : Fin 32} : q ∈ s.floodPorts x p ↔
    (s.tenant x).portSet.getLsbD q.val = true ∧ (s.port q).link = .up ∧ q.val ≠ p.val := by
  unfold State.floodPorts
  rw [List.mem_filter, Bool.and_eq_true, Bool.and_eq_true, beq_iff_eq, bne_iff_ne, and_assoc]
  exact and_iff_right (List.mem_finRange q)

theorem floodPorts_sorted (x : Nat) : (s.floodPorts x p).Pairwise (· < ·) :=
  (List.pairwise_lt_finRange 32).sublist List.filter_sublist

/-- R58: the fields of each copy. -/
theorem mem_copiesOf {x : Copy} (hlen : bytes.length ≤ 9216) (h : x ∈ copiesOf s p bytes) :
    x.tenant = (readFrame bytes).tenant
      ∧ (x.cls, x.throttled) = s.classDecision (readFrame bytes).tenant (readFrame bytes).cls
      ∧ x.len = bytes.length ∧ x.len ≤ 256 * x.cells ∧ 256 * x.cells < x.len + 256 ∧ x.cells ≤ 36
      ∧ x.ingress = p ∧ x.markCapable = (readFrame bytes).markCapable
      ∧ x.pinSlot = (flowHash (readFrame bytes).tenant (readFrame bytes).dst (readFrame bytes).src
          (readFrame bytes).label).toNat % 8192
      ∧ x.pinCheck.toNat = (flowHash (readFrame bytes).tenant (readFrame bytes).dst (readFrame bytes).src
          (readFrame bytes).label).toNat / 65536
      ∧ x.hashHigh = (flowHash (readFrame bytes).tenant (readFrame bytes).dst (readFrame bytes).src
          (readFrame bytes).label).toNat / 8192
      ∧ x.tag = { tenant := (readFrame bytes).tenant, cls := x.cls
                  markCapable := (readFrame bytes).markCapable, mark := (readFrame bytes).mark
                  label := (readFrame bytes).label }
      ∧ x.data = bytes := by
  obtain ⟨d, -, rfl⟩ := List.mem_map.mp h
  unfold copyRecord
  dsimp only
  have hhash := (flowHash (readFrame bytes).tenant (readFrame bytes).dst (readFrame bytes).src
    (readFrame bytes).label).isLt
  refine ⟨rfl, rfl, rfl, by omega, by omega, by omega, rfl, rfl, rfl, ?_, rfl, rfl, rfl⟩
  rw [BitVec.extractLsb'_toNat, Nat.shiftRight_eq_div_pow]
  omega

end Copies

/-- Settles O23: the layout of a frame, the two checks, and the copies by the lookup after the learning. -/
theorem aFrameBecomesItsCopiesOrNothing : Obligations.AFrameBecomesItsCopiesOrNothing := by
  unfold Obligations.AFrameBecomesItsCopiesOrNothing
  refine ⟨fun bytes f b hf hb => ?_, fun s p hp checkGood bytes h => ?_,
    fun s p checkGood bytes f hf hover hacc => ?_⟩
  · subst hf
    obtain rfl : b = frameByte bytes := funext hb
    have h15 := frameByte_lt bytes 15
    refine ⟨frameField_two bytes 12, rfl, ?_, byteBit_iff (by decide), byteBit_iff (by decide),
      label_toNat bytes 16, address_toNat bytes 0, address_toNat bytes 6, isGroup_address bytes 0,
      isGroup_address bytes 6, isPauseMessage_iff bytes, fun hlen key hkey => ?_⟩
    · rw [readFrame, number_ofBits, BitVec.extractLsb'_toNat, BitVec.toNat_ofNat, Nat.shiftRight_eq_div_pow]
      omega
    · subst hkey
      exact hashes_readFrame hlen
  · show execFrameTaken p checkGood bytes s = _
    unfold execFrameTaken
    rw [dif_pos hp, if_neg]
    rwa [Bool.and_eq_true, delivers_iff, accepts_iff]
  · subst hf
    have hexec : exec (.frameTaken p checkGood bytes) s = .next (intake p bytes s) := by
      show execFrameTaken p checkGood bytes s = _
      unfold execFrameTaken
      rw [dif_pos p.isLt, delivers_iff.mpr hover, accepts_iff.mpr hacc]
      rfl
    have hevent := stationEvent_learnSource hacc
    have heq := hevent.eq
    have htenant := hevent.tenant (readFrame bytes).tenant
    have hlearned : ∀ u, u = learnSource p (readFrame bytes) s →
        (intake p bytes s).stations = u.stations ∧ (intake p bytes s).tenants = u.tenants
          ∧ (intake p bytes s).lookup (readFrame bytes).tenant (readFrame bytes).dst
              = u.lookup (readFrame bytes).tenant (readFrame bytes).dst := by
      rintro u rfl
      rw [intake_eq, handOn_eq]
      exact ⟨rfl, rfl, rfl⟩
    obtain ⟨hstations, htenants, hlookup⟩ := hlearned _ rfl
    have hdest := dest_copiesOf (s := s) (p := p) (bytes := bytes)
    generalize hu : learnSource p (readFrame bytes) s = u at *
    refine ⟨_, copiesOf s p bytes, hexec, ?_, fun h => ?_, fun q hq hg => ?_,
      fun x hx => mem_copiesOf hacc.2.1 hx, fun q hg hl => ?_, fun n hg hl => ?_, fun hmiss => ?_⟩
    · rw [hstations, htenants, intake_eq, hu, handOn_eq, heq]
    · rw [hstations, htenants, ← hu, learnSource_of_not h]
      exact ⟨rfl, rfl⟩
    · rw [hstations, htenants, ← hu, learnSource_of_downlink hq hg]
      exact ⟨rfl, rfl⟩
    · rw [hlookup, ← classify_of_unicast hg] at hl
      rw [hdest, destinations_of_downlink hl]
    · rw [hlookup, ← classify_of_unicast hg] at hl
      rw [hdest, destinations_of_path hl]
    · have hmiss : u.classify (readFrame bytes) = none := by
        rcases hmiss with hg | hl
        · exact classify_of_group hg
        · unfold State.classify
          rw [← hlookup, hl, ite_self]
      have hport (q : Nat) : u.port q = s.port q := by rw [heq]; rfl
      refine ⟨u.floodPorts (readFrame bytes).tenant p, ?_, floodPorts_sorted _, fun q => ?_⟩
      · rw [hdest, destinations_of_miss hmiss, htenant]
      · rw [mem_floodPorts, htenant, hport]

end Sys2Proof.Proofs.FrameIntake

/-! Walks over the path sets (R82 to R92). -/

namespace Sys2Proof.Proofs.Walks

open Sys2Proof Sys2Proof.Machine Sys2Proof.Safety

/-! ### The choice in one set (R85 to R87) -/

/-- A first result over the numbers below `n` is that of the least number with one. -/
theorem findSome?_range_eq_some {α : Type} {g : Nat → Option α} {n : Nat} {x : α} :
    (List.range n).findSome? g = some x ↔ ∃ d, d < n ∧ g d = some x ∧ ∀ e, e < d → g e = none := by
  induction n with
  | zero => simp
  | succ n ih =>
    rw [List.range_succ, List.findSome?_append, Option.or_eq_some_iff, ih, List.findSome?_eq_none_iff]
    constructor
    · rintro (⟨d, hd, hx, hnone⟩ | ⟨hnone, hx⟩)
      · exact ⟨d, by omega, hx, hnone⟩
      · have hx : g n = some x := by simpa using hx
        exact ⟨n, by omega, hx, fun e he => hnone e (List.mem_range.mpr he)⟩
    · rintro ⟨d, hd, hx, hnone⟩
      rcases Nat.lt_succ_iff_lt_or_eq.mp hd with hd | rfl
      · exact .inl ⟨d, hd, hx, hnone⟩
      · exact .inr ⟨fun e he => hnone e (List.mem_range.mp he), by simp [hx]⟩

/-- Every index of a list is met on the way round from any start. -/
theorem exists_add_mod_eq {i count : Nat} (start : Nat) (h : i < count) :
    ∃ d, d < count ∧ (start + d) % count = i := by
  have hlt : start % count < count := Nat.mod_lt _ (by omega)
  have hsplit := Nat.mod_add_div start count
  by_cases hi : start % count ≤ i
  · refine ⟨i - start % count, by omega, ?_⟩
    rw [show start + (i - start % count) = i + count * (start / count) by omega, Nat.add_mul_mod_self_left,
      Nat.mod_eq_of_lt h]
  · refine ⟨i + count - start % count, by omega, ?_⟩
    have hround : start + (i + count - start % count) = i + count * (start / count + 1) := by
      rw [Nat.mul_add, Nat.mul_one]
      omega
    rw [hround, Nat.add_mul_mod_self_left, Nat.mod_eq_of_lt h]

/-- The usable member at an index, with the index. -/
def usableAt (ok : Member → Bool) (members : List Member) (i : Nat) : Option (Nat × Member) :=
  match members[i]? with
  | some m => if ok m then some (i, m) else none
  | none => none

section Pick
variable {ok : Member → Bool} {r : PathSet} {h : Nat}

theorem usableAt_eq_some {members : List Member} {i j : Nat} {m : Member} :
    usableAt ok members i = some (j, m) ↔ j = i ∧ members[i]? = some m ∧ ok m = true := by
  unfold usableAt
  rcases members[i]? with _ | x
  · simp
  · by_cases hx : ok x = true
    · simp only [hx, if_true, Option.some.injEq, Prod.mk.injEq]
      constructor
      · rintro ⟨rfl, rfl⟩; exact ⟨rfl, rfl, hx⟩
      · rintro ⟨rfl, rfl, -⟩; exact ⟨rfl, rfl⟩
    · simp only [hx, Option.some.injEq]
      constructor
      · intro hc; cases hc
      · rintro ⟨-, rfl, hok⟩; exact absurd hok hx

theorem usableAt_eq_none {members : List Member} {i : Nat} :
    usableAt ok members i = none ↔ ∀ x, members[i]? = some x → ok x = false := by
  unfold usableAt
  rcases members[i]? with _ | x
  · simp
  · simp

theorem pickFrom_eq (ok : Member → Bool) (members : List Member) (start : Nat) :
    pickFrom ok members start
      = (List.range members.length).findSome? fun j => usableAt ok members ((start + j) % members.length) := by
  unfold pickFrom searchOrder
  rw [List.findSome?_map]
  rfl

theorem startIndex_iff {start : Nat} : start = r.startIndex h ↔
    (r.mode = .hashed → start = h % r.members.length) ∧ (r.mode = .rotating → start = r.cursor) := by
  unfold PathSet.startIndex
  rcases r.mode with _ | _ <;> simp

/-- R86, R87: the search finds the member chosen. -/
theorem pickFrom_eq_some {i : Nat} {m : Member} :
    pickFrom ok r.members (r.startIndex h) = some (i, m) ↔ Chosen ok r h i m := by
  rw [pickFrom_eq, findSome?_range_eq_some]
  unfold Chosen
  constructor
  · rintro ⟨d, hd, hx, hnone⟩
    obtain ⟨rfl, hm, hok⟩ := usableAt_eq_some.mp hx
    obtain ⟨hhashed, hrotating⟩ := startIndex_iff.mp (rfl : r.startIndex h = r.startIndex h)
    exact ⟨hm, hok, _, d, hhashed, hrotating, hd, rfl, fun e he => usableAt_eq_none.mp (hnone e he)⟩
  · rintro ⟨hm, hok, start, d, hhashed, hrotating, hd, rfl, hnone⟩
    obtain rfl := startIndex_iff.mpr ⟨hhashed, hrotating⟩
    exact ⟨d, hd, usableAt_eq_some.mpr ⟨rfl, hm, hok⟩, fun e he => usableAt_eq_none.mpr (hnone e he)⟩

/-- R85: the search finds nothing exactly when no member is usable. -/
theorem pickFrom_eq_none (start : Nat) : pickFrom ok r.members start = none ↔ NothingUsable ok r := by
  rw [pickFrom_eq, List.findSome?_eq_none_iff]
  constructor
  · intro hnone m hm
    obtain ⟨i, hi, rfl⟩ := List.mem_iff_getElem.mp hm
    obtain ⟨d, hd, hround⟩ := exists_add_mod_eq start hi
    exact usableAt_eq_none.mp (hnone d (List.mem_range.mpr hd)) _ (by rw [hround, List.getElem?_eq_getElem hi])
  · exact fun hnone d _ => usableAt_eq_none.mpr fun x hx => hnone x (List.mem_of_getElem? hx)

end Pick

/-- R87: the cursor after a choice. -/
theorem afterChoice_eq (r : PathSet) (i : Nat) : r.afterChoice i
    = { r with cursor := if r.mode = .rotating then (i + 1) % r.members.length else r.cursor } := by
  obtain ⟨mode, _, _, _, _, _, _, _⟩ := r
  cases mode <;> rfl

theorem tableSet_afterChoice (sets : Table PathSet) (n : Fin 64) (i : Nat) :
    tableSet emptyPathSet sets n ((tableGet emptyPathSet sets n).afterChoice i) = setsAfterChoice sets n i := by
  rw [afterChoice_eq]
  rfl

/-- R91: the first choice in a set stays recorded. -/
theorem tableGet_recordPick (picks : Table (Option Nat)) (n i j : Nat) :
    tableGet none (recordPick picks n i) j
      = if j = n then (tableGet none picks n).or (some i) else tableGet none picks j := by
  unfold recordPick
  split
  · next x hx =>
    rw [hx]
    split
    · next hj => rw [hj, hx]; rfl
    · rfl
  · next hx =>
    rw [hx]
    split
    · next hj => rw [hj, tableGet_put_same]; rfl
    · next hj => exact tableGet_put_other _ _ _ hj

/-! ### One visit (R84 to R89) -/

section Visit
variable {ok : Member → Bool} {h : Nat} {n : Fin 64} {sets : Table PathSet} {picks : Table (Option Nat)}

theorem freshWalk_noPath (visits : Nat) (hn : NothingUsable ok (tableGet emptyPathSet sets n))
    (hf : (tableGet emptyPathSet sets n).fallback = none) :
    freshWalk ok h (visits + 1) n sets picks = { outcome := .noPath, sets := sets, picks := picks } := by
  rw [freshWalk]
  dsimp only
  rw [(pickFrom_eq_none _).mpr hn, hf]

theorem freshWalk_fallback (visits : Nat) {n' : Fin 64}
    (hn : NothingUsable ok (tableGet emptyPathSet sets n))
    (hf : (tableGet emptyPathSet sets n).fallback = some n') :
    freshWalk ok h (visits + 1) n sets picks = freshWalk ok h visits n' sets picks := by
  rw [freshWalk]
  dsimp only
  rw [(pickFrom_eq_none _).mpr hn, hf]

theorem freshWalk_reached (visits : Nat) {i : Nat} {u : Fin 8}
    (hc : Chosen ok (tableGet emptyPathSet sets n) h i (.uplink u)) :
    freshWalk ok h (visits + 1) n sets picks
      = { outcome := .reached ⟨n, i⟩ u, sets := setsAfterChoice sets n i, picks := recordPick picks n i } := by
  rw [freshWalk]
  dsimp only
  rw [pickFrom_eq_some.mpr hc]
  dsimp only
  rw [tableSet_afterChoice]

theorem freshWalk_redirect (visits : Nat) {i : Nat} {n' : Fin 64}
    (hc : Chosen ok (tableGet emptyPathSet sets n) h i (.redirect n')) :
    freshWalk ok h (visits + 1) n sets picks
      = freshWalk ok h visits n' (setsAfterChoice sets n i) (recordPick picks n i) := by
  rw [freshWalk]
  dsimp only
  rw [pickFrom_eq_some.mpr hc]
  dsimp only
  rw [tableSet_afterChoice]

/-- R85 to R87: a set has a member chosen in it, or none that is usable. -/
theorem chosen_or_nothing (ok : Member → Bool) (r : PathSet) (h : Nat) :
    (∃ i m, Chosen ok r h i m) ∨ NothingUsable ok r := by
  rcases hp : pickFrom ok r.members (r.startIndex h) with _ | ⟨i, m⟩
  · exact .inr ((pickFrom_eq_none _).mp hp)
  · exact .inl ⟨i, m, pickFrom_eq_some.mp hp⟩

/-- R85, R88: a visit that goes on leaves the rest of the walk to one visit fewer. -/
theorem freshWalk_goesOn {n' : Fin 64} {sets' : Table PathSet} (hv : VisitGoesOn ok h n sets n' sets')
    (visits : Nat) (picks : Table (Option Nat)) :
    ∃ picks', freshWalk ok h (visits + 1) n sets picks = freshWalk ok h visits n' sets' picks' := by
  rcases hv with ⟨hn, hf, rfl⟩ | ⟨i, hc, rfl⟩
  · exact ⟨picks, freshWalk_fallback visits hn hf⟩
  · exact ⟨_, freshWalk_redirect visits hc⟩

end Visit

/-- R89: a walk that has gone on from each of its first `j` visits. -/
theorem freshWalk_goesOn_all {ok : Member → Bool} {h : Nat} {f : Nat → Fin 64} {g : Nat → Table PathSet}
    (j : Nat) (hv : ∀ i, i < j → VisitGoesOn ok h (f i) (g i) (f (i + 1)) (g (i + 1))) (visits : Nat)
    (picks : Table (Option Nat)) :
    ∃ picks', freshWalk ok h (visits + j) (f 0) (g 0) picks = freshWalk ok h visits (f j) (g j) picks' := by
  induction j generalizing visits with
  | zero => exact ⟨picks, rfl⟩
  | succ j ih =>
    obtain ⟨picks', hwalk⟩ := ih (fun i hi => hv i (by omega)) (visits + 1)
    obtain ⟨picks'', hstep⟩ := freshWalk_goesOn (hv j (by omega)) visits picks'
    exact ⟨picks'', by rw [← hstep, ← hwalk, Nat.add_right_comm, Nat.add_assoc]⟩

/-! ### What a walk leaves of the sets (R82, R87) -/

/-- R87: a set differs in its cursor alone, and only a ROTATING one, to a place of its member list. -/
def CursorMoved (r r' : PathSet) : Prop :=
  r' = { r with cursor := r'.cursor } ∧ (r.mode = .hashed → r'.cursor = r.cursor)
    ∧ (r'.cursor = r.cursor ∨ r'.cursor < r.members.length)

theorem CursorMoved.refl (r : PathSet) : CursorMoved r r := ⟨rfl, fun _ => rfl, .inl rfl⟩

theorem CursorMoved.trans {r r' r'' : PathSet} (h : CursorMoved r r') (h' : CursorMoved r' r'') :
    CursorMoved r r'' := by
  obtain ⟨heq, hhashed, hcursor⟩ := h
  obtain ⟨heq', hhashed', hcursor'⟩ := h'
  have hmode : r'.mode = r.mode := by rw [heq]
  have hmembers : r'.members = r.members := by rw [heq]
  rw [hmode] at hhashed'
  rw [hmembers] at hcursor'
  refine ⟨by rw [heq', heq], fun hm => (hhashed' hm).trans (hhashed hm), ?_⟩
  rcases hcursor' with hc | hc
  · rw [hc]
    exact hcursor
  · exact .inr hc

theorem cursorMoved_setsAfterChoice {ok : Member → Bool} {h i : Nat} {m : Member} (sets : Table PathSet)
    (n : Fin 64) (hc : Chosen ok (tableGet emptyPathSet sets n) h i m) (j : Nat) :
    CursorMoved (tableGet emptyPathSet sets j) (tableGet emptyPathSet (setsAfterChoice sets n i) j) := by
  unfold setsAfterChoice
  rw [tableGet_set]
  split
  · next hj =>
    subst hj
    have hlen : 0 < (tableGet emptyPathSet sets n).members.length :=
      List.length_pos_of_mem (List.mem_of_getElem? hc.1)
    refine ⟨rfl, fun hm => if_neg (by rw [hm]; exact Mode.noConfusion), ?_⟩
    dsimp only
    split
    · exact .inr (Nat.mod_lt _ hlen)
    · exact .inl rfl
  · exact .refl _

/-- The place a walk reaches names a usable uplink, and of every set only the cursor has moved. -/
def EndsWell (ok : Member → Bool) (sets : Table PathSet) (w : Walk) : Prop :=
  (∀ pl u, w.outcome = .reached pl u →
    (tableGet emptyPathSet sets pl.set).members[pl.index]? = some (.uplink u) ∧ ok (.uplink u) = true)
  ∧ ∀ j, CursorMoved (tableGet emptyPathSet sets j) (tableGet emptyPathSet w.sets j)

theorem EndsWell.after {ok : Member → Bool} {sets sets' : Table PathSet} {w : Walk}
    (hmoved : ∀ j, CursorMoved (tableGet emptyPathSet sets j) (tableGet emptyPathSet sets' j))
    (hw : EndsWell ok sets' w) : EndsWell ok sets w := by
  refine ⟨fun pl u hr => ?_, fun j => (hmoved j).trans (hw.2 j)⟩
  obtain ⟨hm, hok⟩ := hw.1 pl u hr
  rw [(hmoved pl.set).1] at hm
  exact ⟨hm, hok⟩

theorem endsWell_freshWalk (ok : Member → Bool) (h visits : Nat) (n : Fin 64) (sets : Table PathSet)
    (picks : Table (Option Nat)) : EndsWell ok sets (freshWalk ok h visits n sets picks) := by
  induction visits generalizing n sets picks with
  | zero => exact ⟨fun _ _ hr => (by cases hr), fun j => .refl _⟩
  | succ visits ih =>
    rcases chosen_or_nothing ok (tableGet emptyPathSet sets n) h with ⟨i, m, hc⟩ | hn
    · have hmoved := cursorMoved_setsAfterChoice sets n hc
      cases m with
      | uplink u =>
        rw [freshWalk_reached visits hc]
        refine ⟨fun pl v hr => ?_, hmoved⟩
        cases hr
        exact ⟨hc.1, hc.2.1⟩
      | redirect n' =>
        rw [freshWalk_redirect visits hc]
        exact (ih _ _ _).after hmoved
    · rcases hf : (tableGet emptyPathSet sets n).fallback with _ | n'
      · rw [freshWalk_noPath visits hn hf]
        exact ⟨fun _ _ hr => (by cases hr), fun j => .refl _⟩
      · rw [freshWalk_fallback visits hn hf]
        exact ih _ _ _

/-! ### Usable members (R82) -/

theorem memberUsable_uplink {s : State} {u : Fin 8} : s.memberUsable (.uplink u) = true ↔
    (s.port (32 + u.val)).link = .up ∧ (s.port (32 + u.val)).stormHold = false := by
  unfold State.memberUsable
  rw [Bool.and_eq_true, beq_iff_eq, Bool.not_eq_true']

/-- Settles O29: each visit by its choice, and the end of a walk by induction on its visits. -/
theorem aWalkEndsAtAUsableUplink : Obligations.AWalkEndsAtAUsableUplink := by
  unfold Obligations.AWalkEndsAtAUsableUplink
  refine ⟨fun s c n => ?_, fun usable h visits n sets picks r hr => ?_⟩
  · obtain ⟨hreached, hmoved⟩ := endsWell_freshWalk s.memberUsable c.hashHigh 5 n s.pathSets []
    refine ⟨fun pl u hr => ?_, fun j => ?_, rfl, fun u => memberUsable_uplink, fun n' => rfl⟩
    · obtain ⟨hm, hok⟩ := hreached pl u hr
      exact ⟨hm, memberUsable_uplink.mp hok⟩
    · obtain ⟨heq, hhashed, hcursor⟩ := hmoved j
      exact ⟨_, heq, hhashed, hcursor⟩
  · subst hr
    refine ⟨fun hn => ⟨freshWalk_noPath visits hn, fun n' => freshWalk_fallback visits hn⟩, fun i m hc =>
      ⟨recordPick picks n i, tableGet_recordPick picks n i, fun u hm => ?_, fun n' hm => ?_⟩⟩
    · subst hm
      exact freshWalk_reached visits hc
    · subst hm
      exact freshWalk_redirect visits hc

/-! ### Home walks (R91) -/

section Home
variable {h visits i : Nat} {sets : Table PathSet} {picks : Table (Option Nat)} {n : Fin 64}

theorem homeIndex_eq {r : PathSet} (hhashed : r.mode = .hashed → i = h % r.members.length)
    (hrotating : r.mode = .rotating → i = (tableGet none picks n).getD r.cursor) :
    homeIndex h picks n r = i := by
  unfold homeIndex
  rcases hm : r.mode with _ | _
  · exact (hhashed hm).symm
  · rw [hrotating hm]
    rcases tableGet none picks n.val with _ | x <;> rfl

theorem homeWalk_uplink {u : Fin 8} (hi : homeIndex h picks n (tableGet emptyPathSet sets n) = i)
    (hm : (tableGet emptyPathSet sets n).members[i]? = some (.uplink u)) :
    homeWalk h sets picks (visits + 1) n = some ⟨n, i⟩ := by
  rw [homeWalk, hi, hm]

theorem homeWalk_redirect {n' : Fin 64} (hi : homeIndex h picks n (tableGet emptyPathSet sets n) = i)
    (hm : (tableGet emptyPathSet sets n).members[i]? = some (.redirect n')) :
    homeWalk h sets picks (visits + 1) n = homeWalk h sets picks visits n' := by
  rw [homeWalk, hi, hm]

theorem homeWalk_empty (hm : (tableGet emptyPathSet sets n).members = []) :
    homeWalk h sets picks (visits + 1) n = none := by
  rw [homeWalk, hm]
  rfl

end Home

/-! ### Walks over sets of one member -/

/-- A set of one usable member has it chosen, wherever the search starts. -/
theorem chosen_of_single {ok : Member → Bool} {r : PathSet} {m : Member} (h : Nat)
    (hm : r.members = [m]) (hok : ok m = true) : Chosen ok r h 0 m := by
  obtain ⟨hhashed, hrotating⟩ := startIndex_iff.mp (rfl : r.startIndex h = r.startIndex h)
  refine ⟨by rw [hm]; rfl, hok, r.startIndex h, 0, hhashed, hrotating, by rw [hm]; exact Nat.one_pos, ?_,
    fun e he => absurd he (Nat.not_lt_zero e)⟩
  rw [hm]
  exact (Nat.mod_one _).symm

/-- The sets after `i` choices of index 0, in the sets `f 0`, `f 1` and so on. -/
def setsAlong (sets : Table PathSet) (f : Nat → Fin 64) : Nat → Table PathSet
  | 0 => sets
  | i + 1 => setsAfterChoice (setsAlong sets f i) (f i) 0

theorem members_setsAlong (sets : Table PathSet) (f : Nat → Fin 64) (i j : Nat) :
    (tableGet emptyPathSet (setsAlong sets f i) j).members = (tableGet emptyPathSet sets j).members := by
  induction i with
  | zero => rfl
  | succ i ih =>
    rw [← ih, setsAlong, setsAfterChoice, tableGet_set]
    split
    · next hj => rw [hj]
    · rfl

/-- R88: a chain of sets that each hold one redirect to the next. -/
theorem goesOn_chain {s : State} {h : Nat} {f : Nat → Fin 64} {i : Nat}
    (hm : (s.pathSet (f i)).members = [.redirect (f (i + 1))]) :
    VisitGoesOn s.memberUsable h (f i) (setsAlong s.pathSets f i) (f (i + 1))
      (setsAlong s.pathSets f (i + 1)) :=
  .inr ⟨0, chosen_of_single h ((members_setsAlong _ f i _).trans hm) rfl, rfl⟩

/-- Settles O30, from the rule of one visit, by induction on the visits that go on. -/
theorem aWalkEntersAtMostFiveSets : Obligations.AWalkEntersAtMostFiveSets := by
  unfold Obligations.AWalkEntersAtMostFiveSets
  refine ⟨fun s c f g w hg hw => ⟨fun hv => ?_, fun j r hj hr hv => ?_⟩,
    fun h visits sets picks n r i hr => ⟨rfl, fun hm => ?_, fun hhashed hrotating => ⟨fun u hm => ?_,
      fun n' hm => ?_⟩⟩, fun s c f => ⟨fun hm => ?_, fun u hm hlast hok => ?_, fun hm hf => ?_⟩⟩
  · obtain ⟨picks, hwalk⟩ := freshWalk_goesOn_all 5 hv 0 []
    rw [hw, State.freshResolution, ← hg, hwalk]
    exact ⟨rfl, rfl⟩
  · subst hr
    obtain ⟨picks, hwalk⟩ := freshWalk_goesOn_all j hv (5 - j - 1 + 1) []
    rw [show 5 - j - 1 + 1 + j = 5 by omega] at hwalk
    rw [hw, State.freshResolution, ← hg, hwalk]
    refine ⟨fun i u hc => ?_, fun hn hf => ?_⟩
    · rw [freshWalk_reached _ hc]
      exact ⟨rfl, rfl⟩
    · rw [freshWalk_noPath _ hn hf]
      exact ⟨rfl, rfl⟩
  · exact homeWalk_empty (hr ▸ hm)
  · subst hr
    exact homeWalk_uplink (homeIndex_eq hhashed hrotating) hm
  · subst hr
    exact homeWalk_redirect (homeIndex_eq hhashed hrotating) hm
  · obtain ⟨picks, hwalk⟩ := freshWalk_goesOn_all 5 (h := c.hashHigh) (fun i hi => goesOn_chain (hm i hi)) 0 []
    exact congrArg Walk.outcome hwalk
  · obtain ⟨picks, hwalk⟩ := freshWalk_goesOn_all 4 (h := c.hashHigh) (fun i hi => goesOn_chain (hm i hi)) 1 []
    have hc := chosen_of_single c.hashHigh ((members_setsAlong s.pathSets f 4 _).trans hlast) hok
    exact (congrArg Walk.outcome hwalk).trans (congrArg Walk.outcome (freshWalk_reached 0 hc))
  · have hn : NothingUsable s.memberUsable (s.pathSet (f 0)) := fun m hmem => by
      rw [hm] at hmem
      cases hmem
    exact congrArg Walk.outcome (freshWalk_noPath 4 hn hf)

end Sys2Proof.Proofs.Walks

/-! The resolution event (06_flow_pins_and_steering.md): own walks, failed walks, and the moves of a pin. -/

namespace Sys2Proof.Proofs.Resolution

open Sys2Proof Sys2Proof.Machine Sys2Proof.Safety Sys2Proof.Proofs.Walks

/-! ### Copies in flight (R59, R84, R88) -/

theorem redirectCopy_eq {l : List (List Copy)} {k : Nat} {c : Copy} {more : List Copy} (d : Dest)
    (h : l[k]? = some (c :: more)) : redirectCopy l k d = l.set k ({ c with dest := d } :: more) := by
  induction l generalizing k with
  | nil => cases h
  | cons f rest ih =>
    cases k with
    | zero => cases h; rfl
    | succ k => exact congrArg (f :: ·) (ih h)

theorem dropCopy_eq {l : List (List Copy)} {k : Nat} {c : Copy} {more : List Copy}
    (h : l[k]? = some (c :: more)) :
    dropCopy l k = if more = [] then l.eraseIdx k else l.set k more := by
  induction l generalizing k with
  | nil => cases h
  | cons f rest ih =>
    cases k with
    | zero =>
      cases h
      cases more <;> rfl
    | succ k =>
      have htail := ih (k := k) h
      show f :: dropCopy rest k = _
      rw [htail]
      split <;> rfl

/-! ### The branches of the event (R101, R106) -/

section Event
variable {s : State} {k : Nat} {c : Copy} {n : Fin 64} {r : Pin}

theorem exec_resolutionEvent (hc : s.nextCopy k = some c) (hd : c.dest = .resolve n) :
    exec (.resolutionEvent k) s = .next (resolveCopy k c n s) := by
  show execResolutionEvent k s = _
  rw [execResolutionEvent, hc]
  dsimp only
  rw [hd]

theorem pinMatches_iff :
    pinMatches r c n = true ↔ r.valid = true ∧ r.check = c.pinCheck ∧ r.origin = n := by
  unfold pinMatches
  rw [Bool.and_eq_true, Bool.and_eq_true, beq_iff_eq, beq_iff_eq, and_assoc]

theorem pinTakeable_iff : s.pinTakeable r = true ↔
    r.valid = false ∨ (s.pathSet r.current.set).flowlet ≤ s.timebase - r.lastUse := by
  unfold State.pinTakeable State.idle
  rw [Bool.or_eq_true, Bool.not_eq_true', decide_eq_true_iff]

theorem resolveCopy_matched (h : pinMatches (s.pin c.pinSlot) c n = true) :
    resolveCopy k c n s = resolveMatched k c n (s.pin c.pinSlot) s := if_pos h

theorem resolveCopy_new (h : ¬pinMatches (s.pin c.pinSlot) c n = true)
    (ht : s.pinTakeable (s.pin c.pinSlot) = true) : resolveCopy k c n s = resolveNew k c n s :=
  (if_neg h).trans (if_pos ht)

theorem resolveCopy_unpinned (h : ¬pinMatches (s.pin c.pinSlot) c n = true)
    (ht : ¬s.pinTakeable (s.pin c.pinSlot) = true) : resolveCopy k c n s = resolveUnpinned k c n s :=
  (if_neg h).trans (if_neg ht)

/-! ### A walk that reaches an uplink (R84, R88) -/

section Reached
variable {pl : Place} {u : Fin 8} (h : (s.freshResolution c n).outcome = .reached pl u)
include h

theorem resolveNew_reached : resolveNew k c n s
    = ({ s with pathSets := (s.freshResolution c n).sets }.setPin c.pinSlot
        { valid := true, check := c.pinCheck, origin := n, current := pl
          home := homeOf c n (s.freshResolution c n) pl, lastUse := s.timebase }).handOver k u := by
  unfold resolveNew afterWalk
  dsimp only
  rw [h]

theorem resolveUnpinned_reached :
    resolveUnpinned k c n s = { s with pathSets := (s.freshResolution c n).sets }.handOver k u := by
  unfold resolveUnpinned afterWalk
  dsimp only
  rw [h]

theorem resolveFault_reached : resolveFault k c n r s
    = ({ s with pathSets := (s.freshResolution c n).sets }.setPin c.pinSlot
        { r with current := pl, lastUse := s.timebase }).handOver k u := by
  unfold resolveFault afterWalk
  dsimp only
  rw [h]

end Reached

/-! ### A walk that fails (R84, R89) -/

/-- What follows a walk that reached no uplink. -/
def afterFailure (k : Nat) (n : Fin 64) (w : WalkEnd) (s : State) : State :=
  if w = .chainFault then pend .chainFault n (s.dropNext k) else s.dropNext k

section Failed
variable (h : ∀ pl u, (s.freshResolution c n).outcome ≠ .reached pl u)
include h

theorem resolveNew_failed : resolveNew k c n s
    = afterFailure k n (s.freshResolution c n).outcome { s with pathSets := (s.freshResolution c n).sets } := by
  unfold resolveNew afterWalk afterFailure
  dsimp only
  rcases ho : (s.freshResolution c n).outcome with ⟨pl, u⟩ | _ | _
  · exact absurd ho (h pl u)
  · rfl
  · rfl

theorem resolveUnpinned_failed : resolveUnpinned k c n s
    = afterFailure k n (s.freshResolution c n).outcome { s with pathSets := (s.freshResolution c n).sets } := by
  unfold resolveUnpinned afterWalk afterFailure
  dsimp only
  rcases ho : (s.freshResolution c n).outcome with ⟨pl, u⟩ | _ | _
  · exact absurd ho (h pl u)
  · rfl
  · rfl

theorem resolveFault_failed : resolveFault k c n r s
    = afterFailure k n (s.freshResolution c n).outcome
        ({ s with pathSets := (s.freshResolution c n).sets }.setPin c.pinSlot
          { r with lastUse := s.timebase }) := by
  unfold resolveFault afterWalk afterFailure
  dsimp only
  rcases ho : (s.freshResolution c n).outcome with ⟨pl, u⟩ | _ | _
  · exact absurd ho (h pl u)
  · rfl
  · rfl

end Failed

/-! ### Places (R104) -/

theorem uplinkOf_iff {pl : Place} {u : Fin 8} :
    s.uplinkOf pl = some u ↔ (s.pathSet pl.set).members[pl.index]? = some (.uplink u) := by
  unfold State.uplinkOf State.memberAt
  rcases (s.pathSet pl.set).members[pl.index]? with _ | (v | m) <;> simp

theorem placeUsable_iff {pl : Place} :
    s.placeUsable pl = true ↔ ∃ u, s.uplinkOf pl = some u ∧ s.memberUsable (.uplink u) = true := by
  unfold State.placeUsable
  rcases s.uplinkOf pl with _ | v <;> simp

/-! ### The moves of a matched pin (R106 to R111) -/

theorem resolveMatched_fault (h : s.placeUsable r.current = false) :
    resolveMatched k c n r s = resolveFault k c n r s := by
  unfold resolveMatched
  rcases s.uplinkOf r.current with _ | u
  · rfl
  · exact if_pos h

theorem resolveMatched_usable {u : Fin 8} (h : s.placeUsable r.current = true)
    (hu : s.uplinkOf r.current = some u) : resolveMatched k c n r s = match s.restoreTo r c.cls with
      | some v => (s.setPin c.pinSlot { r with current := r.home, lastUse := s.timebase }).handOver k v
      | none =>
        match s.congestionTo r u c.cls with
        | some (i, v) =>
          (s.setPin c.pinSlot { r with
            current := ⟨r.current.set, i⟩, home := ⟨r.current.set, i⟩, lastUse := s.timebase }).handOver k v
        | none => (s.setPin c.pinSlot { r with lastUse := s.timebase }).handOver k u := by
  rw [resolveMatched, hu]
  dsimp only
  rw [h]
  rfl

/-- R113: the gap of a restore is the highest of those listed for it. -/
theorem requiredRestoreGap_eq (x : PathSet) (cls : Cls) (across : Bool) :
    requiredRestoreGap x cls across = restoreGap x cls across := by
  unfold requiredRestoreGap restoreGap
  cases across <;> by_cases hc : cls = .c2 <;> simp [hc, Nat.max_assoc]

theorem requiredCongestionGap_eq (x : PathSet) (cls : Cls) :
    requiredCongestionGap x cls = congestionGap x cls := by
  unfold requiredCongestionGap congestionGap
  by_cases hc : cls = .c2 <;> simp [hc]

theorem restoreTo_iff {cls : Cls} {v : Fin 8} :
    s.restoreTo r cls = some v ↔ RestoreHolds s r cls ∧ s.uplinkOf r.home = some v := by
  unfold State.restoreTo RestoreHolds
  rw [requiredRestoreGap_eq]
  rcases s.uplinkOf r.home with _ | u
  · simp
  · simp only [Option.some.injEq, exists_eq_left', Option.ite_none_right_eq_some]
    constructor
    · rintro ⟨⟨hne, hus, hocc, hgap⟩, rfl⟩
      exact ⟨⟨hne, hus, hocc, hgap⟩, rfl⟩
    · rintro ⟨⟨hne, hus, hocc, hgap⟩, rfl⟩
      exact ⟨⟨hne, hus, hocc, hgap⟩, rfl⟩

theorem restoreTo_none {cls : Cls} (h : ¬RestoreHolds s r cls) : s.restoreTo r cls = none := by
  rcases hr : s.restoreTo r cls with _ | v
  · rfl
  · exact absurd (restoreTo_iff.mp hr).1 h

theorem mem_candidates {m : Fin 64} {u v : Fin 8} {cls : Cls} {i : Nat} : (i, v) ∈ s.candidates m u cls ↔
    (s.pathSet m).members[i]? = some (.uplink v) ∧ s.memberUsable (.uplink v) = true ∧ v ≠ u
      ∧ 2 * s.uplinkOccupancy v cls ≤ s.resteer cls := by
  unfold State.candidates
  rw [List.mem_filterMap]
  constructor
  · rintro ⟨⟨x, j⟩, hmem, hx⟩
    have hmem := List.mem_zipIdx_iff_getElem?.mp hmem
    rcases x with w | w
    · obtain ⟨hok, heq⟩ := Option.ite_none_right_eq_some.mp hx
      cases heq
      exact ⟨hmem, hok⟩
    · cases hx
  · rintro ⟨hmem, hok⟩
    exact ⟨(.uplink v, i), List.mem_zipIdx_iff_getElem?.mpr hmem, if_pos hok⟩

/-- R110: the candidates stand in the order of their indices. -/
theorem candidates_sorted (m : Fin 64) (u : Fin 8) (cls : Cls) :
    (s.candidates m u cls).Pairwise fun x y => x.1 < y.1 := by
  have hidx : ((s.pathSet m).members.zipIdx).Pairwise fun x y => x.2 < y.2 := by
    rw [← List.pairwise_map (R := (· < ·)), List.zipIdx_map_snd]
    exact List.pairwise_lt_range'
  unfold State.candidates
  refine List.Pairwise.filterMap _ (fun x y hlt b hb b' hb' => ?_) hidx
  obtain ⟨x, i⟩ := x
  obtain ⟨y, j⟩ := y
  rcases x with w | w
  · rcases y with z | z
    · cases (Option.ite_none_right_eq_some.mp hb).2
      cases (Option.ite_none_right_eq_some.mp hb').2
      exact hlt
    · cases hb'
  · cases hb

theorem leastOccupied_eq_none {occ : Fin 8 → Nat} {l : List (Nat × Fin 8)} :
    leastOccupied occ l = none ↔ l = [] := by
  cases l with
  | nil => exact ⟨fun _ => rfl, fun _ => rfl⟩
  | cons x rest =>
    refine ⟨fun h => ?_, fun h => (by cases h)⟩
    unfold leastOccupied at h
    split at h
    · cases h
    · split at h <;> cases h

/-- R110: the least occupancy, and the lowest index among equals. -/
theorem leastOccupied_least {occ : Fin 8 → Nat} {l : List (Nat × Fin 8)} {x : Nat × Fin 8}
    (hl : l.Pairwise fun x y => x.1 < y.1) (h : leastOccupied occ l = some x) :
    x ∈ l ∧ ∀ y ∈ l, occ x.2 < occ y.2 ∨ occ x.2 = occ y.2 ∧ x.1 ≤ y.1 := by
  induction l generalizing x with
  | nil => cases h
  | cons a rest ih =>
    obtain ⟨hfirst, hrest⟩ := List.pairwise_cons.mp hl
    unfold leastOccupied at h
    rcases hb : leastOccupied occ rest with _ | b
    · rw [hb] at h
      cases h
      obtain rfl := leastOccupied_eq_none.mp hb
      refine ⟨List.mem_cons_self, fun y hy => ?_⟩
      obtain rfl := List.mem_singleton.mp hy
      exact .inr ⟨rfl, Nat.le_refl _⟩
    · rw [hb] at h
      obtain ⟨hmem, hleast⟩ := ih hrest hb
      dsimp only at h
      split at h
      · next hle =>
        cases h
        refine ⟨List.mem_cons_self, fun y hy => ?_⟩
        rcases List.mem_cons.mp hy with rfl | hy
        · exact .inr ⟨rfl, Nat.le_refl _⟩
        · have hbefore := hfirst y hy
          have hleast := hleast y hy
          omega
      · next hlt =>
        cases h
        refine ⟨List.mem_cons_of_mem _ hmem, fun y hy => ?_⟩
        rcases List.mem_cons.mp hy with rfl | hy
        · exact .inl (Nat.not_le.mp hlt)
        · exact hleast y hy

theorem congestionTo_none {u : Fin 8} {cls : Cls} (h : ¬CongestionHolds s r u cls) :
    s.congestionTo r u cls = none := by
  unfold State.congestionTo
  split
  · next hcond =>
    rw [leastOccupied_eq_none]
    by_contra hne
    refine h ⟨hcond.1, hne, ?_⟩
    rw [requiredCongestionGap_eq]
    exact hcond.2
  · rfl

theorem congestionTo_some {u : Fin 8} {cls : Cls} {x : Nat × Fin 8} (h : s.congestionTo r u cls = some x) :
    CongestionHolds s r u cls ∧ leastOccupied (fun v => s.uplinkOccupancy v cls)
      (s.candidates r.current.set u cls) = some x := by
  unfold State.congestionTo at h
  obtain ⟨⟨hocc, hgap⟩, hleast⟩ := Option.ite_none_right_eq_some.mp h
  refine ⟨⟨hocc, fun hnil => ?_, ?_⟩, hleast⟩
  · rw [hnil] at hleast
    cases hleast
  · rw [requiredCongestionGap_eq]
    exact hgap

/-- R110: the candidate of least occupancy and, among equals, of lowest index is the one chosen. -/
theorem congestionTo_of_least {u w : Fin 8} {cls : Cls} {i : Nat} (h : CongestionHolds s r u cls)
    (hmem : (i, w) ∈ s.candidates r.current.set u cls)
    (hleast : ∀ j x, (j, x) ∈ s.candidates r.current.set u cls →
      s.uplinkOccupancy w cls < s.uplinkOccupancy x cls
        ∨ s.uplinkOccupancy w cls = s.uplinkOccupancy x cls ∧ i ≤ j) :
    s.congestionTo r u cls = some (i, w) := by
  obtain ⟨hocc, hne, hgap⟩ := h
  rw [requiredCongestionGap_eq] at hgap
  refine (if_pos ⟨hocc, hgap⟩).trans ?_
  rcases hl : leastOccupied (fun v => s.uplinkOccupancy v cls) (s.candidates r.current.set u cls) with
    _ | ⟨j, x⟩
  · exact absurd (leastOccupied_eq_none.mp hl) hne
  · obtain ⟨hmem', hleast'⟩ := leastOccupied_least (candidates_sorted _ _ _) hl
    have hone := hleast j x hmem'
    have htwo := hleast' (i, w) hmem
    dsimp only at htwo
    have hij : i = j := by omega
    have hmi := (mem_candidates.mp hmem).1
    have hmj := (mem_candidates.mp hmem').1
    rw [hij, hmj] at hmi
    cases hmi
    rw [hij]

end Event

/-- Settles O31: the new pin, or the unpinned hand-over, where the walk ends. -/
theorem aCopyWithNoPinOfItsOwnWalks : Obligations.ACopyWithNoPinOfItsOwnWalks := by
  unfold Obligations.ACopyWithNoPinOfItsOwnWalks
  refine ⟨fun l k c more d h => ⟨redirectCopy_eq d h, dropCopy_eq h⟩,
    fun s k c n pl u hc hd hr hnot => ?_⟩
  have hmatch : ¬pinMatches (s.pin c.pinSlot) c n = true := mt pinMatches_iff.mp hnot
  have hother (j : Nat) (hj : j ≠ k) := redirectCopy_other s.inFlight (.uplink u) hj
  have hnext := nextCopy_handOver u hc
  have hexec := exec_resolutionEvent hc hd
  by_cases ht : s.pinTakeable (s.pin c.pinSlot) = true
  · rw [resolveCopy_new hmatch ht, resolveNew_reached hr] at hexec
    refine ⟨_, hexec, rfl, hnext, hother, fun _ => ⟨?_, fun j hj => ?_⟩, fun ⟨hvalid, hgap⟩ => ?_⟩
    · rw [State.handOver_pin, State.pin_set, if_pos rfl]
      rfl
    · rw [State.handOver_pin, State.pin_set, if_neg hj]
      rfl
    · rcases pinTakeable_iff.mp ht with hfree | hidle
      · rw [hfree] at hvalid
        cases hvalid
      · exact absurd hgap (Nat.not_lt.mpr hidle)
  · rw [resolveCopy_unpinned hmatch ht, resolveUnpinned_reached hr] at hexec
    exact ⟨_, hexec, rfl, hnext, hother, fun hfree => absurd (pinTakeable_iff.mpr hfree) ht, fun _ => rfl⟩

/-- A walk that fails leaves the copy dropped, with CHAIN_FAULT when it was stopped. -/
theorem resolveCopy_failed {s : State} {k : Nat} {c : Copy} {n : Fin 64}
    (hplace : pinMatches (s.pin c.pinSlot) c n = true → s.placeUsable (s.pin c.pinSlot).current = false)
    (h : ∀ pl u, (s.freshResolution c n).outcome ≠ .reached pl u) :
    resolveCopy k c n s = afterFailure k n (s.freshResolution c n).outcome
      { (if pinMatches (s.pin c.pinSlot) c n = true
          then s.setPin c.pinSlot { s.pin c.pinSlot with lastUse := s.timebase } else s) with
        pathSets := (s.freshResolution c n).sets } := by
  by_cases hm : pinMatches (s.pin c.pinSlot) c n = true
  · rw [resolveCopy_matched hm, resolveMatched_fault (hplace hm), resolveFault_failed h, if_pos hm]
    rfl
  · rw [if_neg hm]
    by_cases ht : s.pinTakeable (s.pin c.pinSlot) = true
    · rw [resolveCopy_new hm ht, resolveNew_failed h]
    · rw [resolveCopy_unpinned hm ht, resolveUnpinned_failed h]

/-- Settles O32: every branch of the event treats a walk that fails alike. -/
theorem aWalkThatFailsDropsTheCopy : Obligations.AWalkThatFailsDropsTheCopy := by
  unfold Obligations.AWalkThatFailsDropsTheCopy
  intro s k c n d hc hd hplace heq
  have hfailed (h : ∀ pl u, (s.freshResolution c n).outcome ≠ .reached pl u) :
      exec (.resolutionEvent k) s = .next (if (s.freshResolution c n).outcome = .chainFault
        then pend .chainFault n d else d) := by
    rw [exec_resolutionEvent hc hd, resolveCopy_failed hplace h, afterFailure, heq]
    congr 1
    by_cases hm : pinMatches (s.pin c.pinSlot) c n = true
    · rw [if_pos hm]
      rfl
    · rw [if_neg hm]
      rfl
  refine ⟨fun ho => ?_, fun ho => ?_⟩
  · rw [hfailed (by rw [ho]; exact fun _ _ => WalkEnd.noConfusion), ho]
    rfl
  · rw [hfailed (by rw [ho]; exact fun _ _ => WalkEnd.noConfusion), ho]
    rfl

/-- Settles O33: the fault move, else the restore, else the congestion move, else staying. -/
theorem aMatchedPinMovesInOrder : Obligations.AMatchedPinMovesInOrder := by
  unfold Obligations.AMatchedPinMovesInOrder
  refine ⟨fun s pl => ⟨?_, fun u => uplinkOf_iff⟩, fun s n u v c i => ?_,
    fun s k c n r hc hd hr hvalid hcheck horigin => ?_⟩
  · simp only [placeUsable_iff, uplinkOf_iff, memberUsable_uplink]
  · rw [mem_candidates, memberUsable_uplink, and_assoc]
    exact .rfl
  · have hexec := exec_resolutionEvent hc hd
    rw [resolveCopy_matched (hr ▸ pinMatches_iff.mpr ⟨hvalid, hcheck, horigin⟩), ← hr] at hexec
    refine ⟨fun pl u hbad ho => ?_, fun v hok hrestore hv => ?_,
      fun u i w hok hno hu hcong hmem hleast => ?_, fun u hok hno hu hcong => ?_⟩
    · rw [hexec, resolveMatched_fault hbad, resolveFault_reached ho]
      rfl
    · obtain ⟨u, hu, -⟩ := placeUsable_iff.mp hok
      rw [hexec, resolveMatched_usable hok hu, restoreTo_iff.mpr ⟨hrestore, hv⟩]
    · rw [hexec, resolveMatched_usable hok hu, restoreTo_none hno, congestionTo_of_least hcong hmem hleast]
    · rw [hexec, resolveMatched_usable hok hu, restoreTo_none hno, congestionTo_none hcong]

/-- Settles O34, from the order of the moves: each is made only under its own gap. -/
theorem aPinMovesOnlyAfterItsGap : Obligations.APinMovesOnlyAfterItsGap := by
  unfold Obligations.APinMovesOnlyAfterItsGap
  intro s t k c n r hc hd hr hmatch hok ht hmoved
  subst hr
  obtain ⟨u, hu, -⟩ := placeUsable_iff.mp hok
  rw [exec_resolutionEvent hc hd, resolveCopy_matched hmatch, resolveMatched_usable hok hu] at ht
  rcases hrestore : s.restoreTo (s.pin c.pinSlot) c.cls with _ | v
  · rw [hrestore] at ht
    rcases hcong : s.congestionTo (s.pin c.pinSlot) u c.cls with _ | ⟨i, v⟩
    · rw [hcong] at ht
      cases ht
      rw [State.handOver_pin, State.pin_set, if_pos rfl] at hmoved
      exact absurd rfl hmoved
    · rw [hcong] at ht
      cases ht
      obtain ⟨⟨-, -, hgap⟩, -⟩ := congestionTo_some hcong
      rw [State.handOver_pin, State.pin_set, if_pos rfl]
      exact .inr ⟨rfl, rfl, hgap⟩
  · rw [hrestore] at ht
    cases ht
    obtain ⟨⟨-, -, -, hgap⟩, -⟩ := restoreTo_iff.mp hrestore
    rw [State.handOver_pin, State.pin_set, if_pos rfl]
    exact .inl ⟨rfl, rfl, hgap⟩

end Sys2Proof.Proofs.Resolution

/-! The requests on path sets and pins (R94 to R97, R117). -/

namespace Sys2Proof.Proofs.PathRequests

open Sys2Proof Sys2Proof.Machine Sys2Proof.Safety Sys2Proof.Proofs.TenantRead Sys2Proof.Proofs.TenantRequests
  Sys2Proof.Proofs.StationRequests

/-! ### The operands (R94, R190) -/

theorem memberOf_iff {w : Word} {x : Member} : memberOf w = some x ↔
    (∃ u : Fin 8, x = .uplink u ∧ w.toNat / 256 % 4 = 1 ∧ w.toNat % 256 = u.val)
    ∨ ∃ n : Fin 64, x = .redirect n ∧ w.toNat / 256 % 4 = 2 ∧ w.toNat % 256 = n.val := by
  have h1 := kindBits_iff w 1 (by decide)
  have h2 := kindBits_iff w 2 (by decide)
  unfold memberOf
  dsimp only
  constructor
  · intro h
    split at h
    · next hk =>
      split at h
      · next hlt => cases h; exact .inl ⟨_, rfl, h1.mp hk, rfl⟩
      · cases h
    · split at h
      · next hk =>
        obtain ⟨n, hn, rfl⟩ := Option.map_eq_some_iff.mp h
        exact .inr ⟨n, rfl, h2.mp hk, setNumber_iff.mp hn⟩
      · cases h
  · rintro (⟨u, rfl, hk, hu⟩ | ⟨n, rfl, hk, hn⟩)
    · rw [if_pos (h1.mpr hk), dif_pos (by omega)]
      simp only [hu]
    · rw [if_neg (fun h => by have := h1.mp h; omega), if_pos (h2.mpr hk), setNumber_iff.mpr hn]
      rfl

/-- R94: the list of members is refused when any of its words is. -/
theorem membersOf_iff {m : Message} {i n : Nat} {l : List Member} : membersOf m i n = some l ↔
    (List.range n).map (fun j => memberOf (word m (i + j))) = l.map some := by
  induction n generalizing i l with
  | zero =>
    rw [membersOf, List.range_zero, List.map_nil, Option.some.injEq]
    cases l <;> simp
  | succ n ih =>
    have htail : (List.range n).map (fun j => memberOf (word m (i + (j + 1))))
        = (List.range n).map (fun j => memberOf (word m (i + 1 + j))) :=
      List.map_congr_left fun j _ => by rw [Nat.add_right_comm, Nat.add_assoc]
    have ih := @ih (i + 1)
    rw [membersOf, List.range_succ_eq_map, List.map_cons, List.map_map]
    show _ ↔ memberOf (word m (i + 0)) :: (List.range n).map (fun j => memberOf (word m (i + (j + 1)))) = _
    rw [htail, Nat.add_zero]
    cases l with
    | nil =>
      simp only [List.map_nil, reduceCtorEq, iff_false]
      split
      · exact fun h => nomatch h
      · exact fun h => nomatch h
    | cons x rest =>
      rw [List.map_cons, List.cons.injEq, ← ih]
      rcases memberOf (word m i) with _ | y
      · simp
      · rcases membersOf m (i + 1) n with _ | ys <;> simp

theorem testBit_31 {w : Word} : w.getLsbD 31 = true ↔ 2147483648 ≤ w.toNat := by
  have := w.isLt
  rw [BitVec.getLsbD, Nat.testBit_eq_decide_div_mod_eq, decide_eq_true_iff]
  omega

theorem optionalSet_none {m : Message} {i : Nat} : optionalSet m i = some none ↔ num m i < 2147483648 := by
  unfold optionalSet optionalField
  by_cases h : (word m i).getLsbD 31 = true
  · have := testBit_31.mp h
    rw [if_pos h]
    simp only [Option.map_eq_some_iff, reduceCtorEq, and_false, exists_const, false_iff]
    exact Nat.not_lt.mpr this
  · rw [if_neg h]
    exact iff_of_true rfl (Nat.not_le.mp (mt testBit_31.mpr h))

theorem optionalSet_some {m : Message} {i : Nat} {n : Fin 64} :
    optionalSet m i = some (some n) ↔ num m i = 2147483648 + n.val := by
  have hlt : num m i < 4294967296 := (word m i).isLt
  unfold optionalSet optionalField
  by_cases h : (word m i).getLsbD 31 = true
  · have hge : 2147483648 ≤ num m i := testBit_31.mp h
    rw [if_pos h]
    simp only [Option.map_eq_some_iff, Option.some.injEq, exists_eq_right, setNumber_iff]
    omega
  · have hlow : num m i < 2147483648 := Nat.not_le.mp (mt testBit_31.mpr h)
    rw [if_neg h]
    simp only [Option.some.injEq, reduceCtorEq, false_iff]
    omega

theorem outPlace_toNat {pl : Place} (h : pl.index < 256) :
    (outPlace pl).toNat = pl.index + 256 * pl.set.val := by
  have := pl.set.isLt
  unfold outPlace
  rw [out_toNat_of_lt (by omega), Nat.mod_eq_of_lt h, Nat.add_comm]

theorem field16_of_narrow {m : Message} {i : Nat} (d : Nat) (h : num m i ≤ 65535) :
    isWide m i = false ∧ field16 d m i = num m i := by
  have hw : isWide m i = false := decide_eq_false (Nat.not_lt.mpr h)
  unfold field16
  rw [hw]
  exact ⟨rfl, rfl⟩

theorem eightSlots_eq {α : Type} (f : α → Word) (l : List α) :
    eightSlots [0#32] (fun x => [f x]) l = (List.range 8).map fun i => (l[i]?.map f).getD 0#32 := by
  unfold eightSlots
  rw [← List.flatMap_singleton' ((List.range 8).map _), List.flatMap_map]
  congr 1
  funext i
  rcases l[i]? with _ | x <;> rfl

/-! ### PATHSET_WRITE (R94, R95) -/

section Write
variable {m : Message} {s : State}

theorem modeOf_iff {n : Nat} {mode : Mode} :
    modeOf n = some mode ↔ n = 0 ∧ mode = .hashed ∨ n = 1 ∧ mode = .rotating := by
  unfold modeOf
  split
  · simp [eq_comm]
  · simp [eq_comm]
  · next h0 h1 => exact iff_of_false (nomatch ·) (not_or.mpr ⟨fun h => h0 h.1, fun h => h1 h.1⟩)

theorem modeOf_none {n : Nat} (h : 2 ≤ n) : modeOf n = none := by
  unfold modeOf
  split
  · omega
  · omega
  · rfl

theorem pathSetOf_none (d : Nat)
    (h : 64 ≤ num m 1 ∨ 8 < num m 3 ∨ 2 ≤ num m 2 ∨ membersOf m 4 (num m 3) = none ∨ optionalSet m 12 = none) :
    pathSetOf d m = none := by
  unfold pathSetOf
  split
  · rfl
  · next hr =>
    split
    · next mode members fallback hmode hmembers hfallback =>
      obtain ⟨h1, h3⟩ := not_or.mp hr
      rcases h with h | h | h | h | h
      · exact absurd h h1
      · exact absurd h h3
      · rw [modeOf_none h] at hmode
        cases hmode
      · rw [h] at hmembers
        cases hmembers
      · rw [h] at hfallback
        cases hfallback
    · rfl

theorem pathSetOf_some (d : Nat) {mode : Mode} {members : List Member} {fallback : Option (Fin 64)}
    (h1 : num m 1 < 64) (h3 : num m 3 ≤ 8) (hmode : modeOf (num m 2) = some mode)
    (hmembers : membersOf m 4 (num m 3) = some members) (hfallback : optionalSet m 12 = some fallback) :
    pathSetOf d m = some
      { mode := mode, members := members, fallback := fallback, cursor := 0
        flowlet := field16 d m 13, restore := field16 d m 14, setchange := field16 d m 15
        lossless := field16 d m 16 } := by
  unfold pathSetOf
  rw [if_neg (by omega), hmode, hmembers, hfallback]

theorem pathsetWriteEffect_none (h : pathSetOf s.draws m = none) :
    pathsetWriteEffect m s = refuseWith .malformed s := by
  unfold pathsetWriteEffect
  rw [h]

theorem pathsetWriteEffect_some {r : PathSet} (h : pathSetOf s.draws m = some r)
    (hw : (isWide m 13 || isWide m 14 || isWide m 15 || isWide m 16) = false) :
    pathsetWriteEffect m s = ⟨.done, [out (num m 1)],
      { s.setPathSet (num m 1) r with jobs := { s.jobs with sets := setInsert s.jobs.sets (num m 1) } }⟩ := by
  unfold pathsetWriteEffect
  rw [h, hw]
  rfl

end Write

/-- Settles O28: the operands, the refusals, the record written, and the two readings. -/
theorem pathsetRequestsWriteAndRead : Obligations.PathsetRequestsWriteAndRead := by
  unfold Obligations.PathsetRequestsWriteAndRead
  refine ⟨fun w x => memberOf_iff, fun m i n l => membersOf_iff,
      fun m i => ⟨optionalSet_none, fun n => optionalSet_some⟩, fun u n pl => ⟨rfl, rfl, outPlace_toNat, rfl, ?_⟩,
    fun s m keep hrun => ⟨fun h => ?_, fun mode members fallback h1 h3 hmode hmembers hfallback h13 h14 h15 h16 => ?_⟩,
    fun s m keep => ⟨fun hrun => ⟨fun h => ?_, fun r h hr => ?_⟩, fun hrun => ⟨fun h => ?_, fun r h hr => ?_⟩⟩⟩
  · have := n.isLt
    exact out_toNat_of_lt (by omega)
  · exact answer_of_refusal hrun (pathsetWriteEffect_none (pathSetOf_none _ h))
  · obtain ⟨hw13, hf13⟩ := field16_of_narrow s.draws h13
    obtain ⟨hw14, hf14⟩ := field16_of_narrow s.draws h14
    obtain ⟨hw15, hf15⟩ := field16_of_narrow s.draws h15
    obtain ⟨hw16, hf16⟩ := field16_of_narrow s.draws h16
    have hset := pathSetOf_some s.draws h1 h3 (modeOf_iff.mpr hmode) hmembers hfallback
    rw [hf13, hf14, hf15, hf16] at hset
    exact answer_of_effect hrun (pathsetWriteEffect_some hset (by rw [hw13, hw14, hw15, hw16]; rfl))
  · exact answer_of_refusal (effect := pathsetReadEffect) hrun (if_pos h)
  · subst hr
    rw [← eightSlots_eq outMember, ← eightSlots_eq (fun x => outFlag (s.memberUsable x))]
    exact answer_of_effect (effect := pathsetReadEffect) hrun (if_neg (Nat.not_le.mpr h))
  · exact answer_of_refusal (effect := pinReadEffect) hrun (if_pos h)
  · subst hr
    exact answer_of_effect (effect := pinReadEffect) hrun (if_neg (Nat.not_le.mpr h))

end Sys2Proof.Proofs.PathRequests

/-! Admission (R124, R125): a copy joins its queue, or is dropped. -/

namespace Sys2Proof.Proofs.Admission

open Sys2Proof Sys2Proof.Machine Sys2Proof.Safety Sys2Proof.Proofs.Ports Sys2Proof.Proofs.Effects
  Sys2Proof.Proofs.Buffer Sys2Proof.Proofs.PortLaws

theorem kindOfPort_iff {p : Nat} : kindOfPort p = .downlink ↔ p < 32 := by
  unfold kindOfPort
  split
  · next h => exact iff_of_true rfl h
  · next h => exact iff_of_false PortKind.noConfusion h

/-- The six tests of R124, one by one. -/
theorem admits_iff {s : State} {c : Copy} {p : Nat} : s.admits c p = true ↔ CopyPasses s c p := by
  have hstall : ((s.port p).stateOf c.cls == .stalled) = false
      ↔ ¬(c.cls = .c2 ∧ (s.port p).c2State = .stalled) := by
    rw [beq_eq_false_iff_ne]
    rcases c.cls with _ | _ | _ | _ <;> simp [Port.stateOf]
  have hthrottle : c.throttled = false
        ∨ s.occupancy p .c0 + c.cells ≤ (s.policy (kindOfPort p) .c0).throttle
      ↔ (c.throttled = true → s.occupancy p .c0 + c.cells ≤ (s.policy (kindOfPort p) .c0).throttle) := by
    rw [or_iff_not_imp_left, Bool.not_eq_false]
  unfold State.admits CopyPasses
  simp only [Bool.and_eq_true, Bool.or_eq_true, Bool.not_eq_true', decide_eq_true_iff, beq_iff_eq, hstall,
    hthrottle, or_iff_not_imp_left (a := c.cls = .c2), beq_eq_false_iff_ne, and_assoc]

section Execution
variable {s : State} {k : Nat} {c : Copy} {p : Fin 40}

theorem exec_admission (hc : s.nextCopy k = some c) (hd : c.dest.egressPort = some p) :
    exec (.admission k) s = .next (if s.admits c p = true then admitCopy c p (s.dropNext k) else s.dropNext k) := by
  show execAdmission k s = _
  rw [execAdmission, hc]
  dsimp only
  rw [hd]

end Execution

/-! ### What an admission leaves at each port -/

section Port
variable (s : State) (c : Copy) (p q : Nat)

/-- R125: each port once the copy has joined its queue. -/
def queuedPort : Port := if q = p then joinedPort s c (s.port p) else s.port q

theorem queuedPort_eq : queuedPort s c p q = { s.port q with
    queues := (queuedPort s c p q).queues, storm := (queuedPort s c p q).storm } := by
  unfold queuedPort
  split
  · next h =>
    rw [h]
    exact joinedPort_eq s c _
  · rfl

/-- R125: the frame that an admitted copy becomes. -/
def admittedFrame : QFrame := queuedFrame c ((s.tenant c.tenant).state == .draining)

theorem queuedPort_queue (d : Cls) : (queuedPort s c p q).queues.get d = if q = p ∧ d = c.cls
    then (s.port q).queues.get d ++ [admittedFrame s c] else (s.port q).queues.get d := by
  unfold queuedPort
  by_cases hq : q = p
  · rw [if_pos hq, joinedPort_queues, PerClass.get_set, hq]
    by_cases hd : d = c.cls
    · rw [if_pos hd, if_pos ⟨rfl, hd⟩, hd]
      rfl
    · rw [if_neg hd, if_neg fun h => hd h.2]
  · rw [if_neg hq, if_neg fun h => hq h.1]

theorem admitCopy_port_eq : (admitCopy c p s).port q = { queuedPort s c p q with
    losslessCount := (s.port q).losslessCount + if c.cls = .c2 ∧ q = c.ingress.val then c.cells else 0
    ingress := ((admitCopy c p s).port q).ingress, slot := ((admitCopy c p s).port q).slot
    renewal := ((admitCopy c p s).port q).renewal } := by
  have hcount : (queuedPort s c p q).losslessCount = (s.port q).losslessCount := by rw [queuedPort_eq]
  rw [admitCopy_port, ← hcount]
  split
  · exact raisedPort_eq _ _ _ _
  · rfl

/-- R135: the pause-on test is made where the copy counts. -/
theorem admitCopy_port_counted (h : c.cls = .c2 ∧ q = c.ingress.val) : (admitCopy c p s).port q
    = Port.pauseOnTest { queuedPort s c p q with losslessCount := (s.port q).losslessCount + c.cells }
        (s.pauseOf q) s.timebase := by
  have hcount : (queuedPort s c p q).losslessCount = (s.port q).losslessCount := by rw [queuedPort_eq]
  rw [admitCopy_port, if_pos h, ← hcount]
  rfl

theorem admitCopy_port_uncounted (h : ¬(c.cls = .c2 ∧ q = c.ingress.val)) :
    (admitCopy c p s).port q = queuedPort s c p q := by
  rw [admitCopy_port, if_neg h]
  rfl

theorem admitCopy_eq : admitCopy c p s = { s with
    ports := (admitCopy c p s).ports, tenants := (admitCopy c p s).tenants
    freeCount := s.freeCount - c.cells } := by
  unfold admitCopy takeRoom
  rw [raiseLossless_eq]
  rfl

theorem admitCopy_tenant (u : Nat) : (admitCopy c p s).tenant u = if u = c.tenant
    then { s.tenant u with inBuffer := (s.tenant u).inBuffer + 1 } else s.tenant u := by
  unfold admitCopy takeRoom
  rw [raiseLossless_eq]
  show (State.setTenant _ _ _).tenant u = _
  rw [State.tenant_set]
  split
  · next h =>
    rw [h]
    rfl
  · rfl

end Port

/-! ### The ingress side and the storm timer (R135, R143) -/

section Sides
variable {s : State} {c : Copy} {p : Nat}

/-- R135: the pause-on test turns the port. -/
theorem ingress_of_pauseOn {r : Port} {q : PauseSettings} {now : Nat} (hf : r.ingress = .flowing)
    (hup : r.link = .up) (hon : q.pauseOn ≤ r.losslessCount) :
    (r.pauseOnTest q now).ingress = .pausing ∧ (r.pauseOnTest q now).slot = some (.pause q.quantum)
      ∧ (r.pauseOnTest q now).renewal = some (now + if q.quantum = 1 then 1 else q.quantum / 2) := by
  unfold Port.pauseOnTest
  rw [if_pos ⟨hf, hup, hon⟩]
  exact ⟨rfl, rfl, rfl⟩

theorem pauseOnTest_of_not {r : Port} {q : PauseSettings} {now : Nat}
    (h : r.ingress = .pausing ∨ r.link ≠ .up ∨ r.losslessCount < q.pauseOn) : r.pauseOnTest q now = r := by
  refine if_neg fun ⟨hf, hup, hon⟩ => ?_
  rcases h with h | h | h
  · rw [hf] at h
    cases h
  · exact h hup
  · omega

/-- R135: elsewhere the ingress side stays. -/
theorem admitCopy_side (q : Nat) (h : q ≠ c.ingress.val ∨ c.cls ≠ .c2 ∨ (s.port q).ingress = .pausing
    ∨ (s.port q).link ≠ .up ∨ ((admitCopy c p s).port q).losslessCount < (s.pauseOf q).pauseOn) :
    ((admitCopy c p s).port q).ingress = (s.port q).ingress
      ∧ ((admitCopy c p s).port q).slot = (s.port q).slot
      ∧ ((admitCopy c p s).port q).renewal = (s.port q).renewal := by
  have hqueued := queuedPort_eq s c p q
  by_cases hcount : c.cls = .c2 ∧ q = c.ingress.val
  · have hless : ((admitCopy c p s).port q).losslessCount = (s.port q).losslessCount + c.cells := by
      rw [admitCopy_port_eq, if_pos hcount]
    rw [hless] at h
    have h := (h.resolve_left fun h => h hcount.2).resolve_left fun h => h hcount.1
    rw [admitCopy_port_counted s c p q hcount, pauseOnTest_of_not (by rw [hqueued]; exact h), hqueued]
    exact ⟨rfl, rfl, rfl⟩
  · rw [admitCopy_port_uncounted s c p q hcount, hqueued]
    exact ⟨rfl, rfl, rfl⟩

/-- R135: where the copy counts, the port turns when it is FLOWING, UP and at or above pause-on. -/
theorem admitCopy_turns (hc : c.cls = .c2) (hf : (s.port c.ingress).ingress = .flowing)
    (hup : ((admitCopy c p s).port c.ingress).link = .up)
    (hon : (s.pauseOf c.ingress).pauseOn ≤ ((admitCopy c p s).port c.ingress).losslessCount) :
    ((admitCopy c p s).port c.ingress).ingress = .pausing
      ∧ ((admitCopy c p s).port c.ingress).slot = some (.pause (s.pauseOf c.ingress).quantum)
      ∧ ((admitCopy c p s).port c.ingress).renewal = some (s.timebase
          + if (s.pauseOf c.ingress).quantum = 1 then 1 else (s.pauseOf c.ingress).quantum / 2) := by
  have hqueued := queuedPort_eq s c p c.ingress
  have hport := admitCopy_port_counted s c p c.ingress ⟨hc, rfl⟩
  rw [hport, Port.pauseOnTest_eq] at hup hon
  rw [hport]
  exact ingress_of_pauseOn (by rw [hqueued]; exact hf) hup hon

theorem admitCopy_storm (q : Nat) :
    ((admitCopy c p s).port q).storm = if q = p then (joinedPort s c (s.port p)).storm else (s.port q).storm := by
  rw [admitCopy_port_eq]
  show (queuedPort s c p q).storm = _
  unfold queuedPort
  split <;> rfl

/-- R143: a C2 copy starts the stopped timer of a PAUSED queue. -/
theorem joinedPort_storm_starts {r : Port} (hc : c.cls = .c2) (hp : r.c2State = .paused)
    (hs : r.storm = none) : (joinedPort s c r).storm
      = some ⟨s.timebase, s.timebase + 10000 * (s.linkSettings.stormBudget + 1)⟩ := by
  have hne : (r.queues.set c.cls (r.queues.get c.cls
      ++ [queuedFrame c ((s.tenant c.tenant).state == .draining)])).c2 ≠ [] := by
    rw [hc]
    exact List.append_ne_nil_of_right_ne_nil _ (List.cons_ne_nil _ _)
  unfold joinedPort State.stormSync Port.stormSync
  rw [if_pos ⟨hp, hne⟩]
  dsimp only
  rw [hs]

/-- R143: on a port whose timers are lawful, no other timer starts or stops. -/
theorem joinedPort_storm_stays {r : Port} (ht : portTimed r)
    (h : c.cls ≠ .c2 ∨ r.c2State ≠ .paused ∨ r.storm ≠ none) : (joinedPort s c r).storm = r.storm := by
  obtain ⟨-, -, -, -, hrun⟩ := ht
  have hqueue : c.cls ≠ .c2 → (joinedPort s c r).queues.c2 = r.queues.c2 := fun hc => by
    rw [joinedPort_queues]
    show PerClass.get _ Cls.c2 = _
    rw [PerClass.get_set, if_neg (Ne.symm hc)]
    rfl
  have hgrows : (joinedPort s c r).queues.c2 = [] → r.queues.c2 = [] := fun hnil => by
    by_cases hc : c.cls = .c2
    · rw [joinedPort_queues, hc] at hnil
      exact absurd hnil (List.append_ne_nil_of_right_ne_nil _ (List.cons_ne_nil _ _))
    · rw [← hqueue hc]
      exact hnil
  have hstorm : (joinedPort s c r).storm = if (joinedPort s c r).queues.c2 = [] then none else r.storm := by
    rw [joinedPort_queues]
    refine stormSync_storm_of_timed rfl rfl (fun hs => (hrun.mp hs).1) fun hp hne => ?_
    rcases h with hc | hn | hs
    · refine hrun.mpr ⟨hp, ?_⟩
      rw [← hqueue hc, joinedPort_queues]
      exact hne
    · exact absurd hp hn
    · exact Option.isSome_iff_ne_none.mpr hs
  rw [hstorm]
  split
  · next hnil =>
    refine (Option.not_isSome_iff_eq_none.mp fun hs => ?_).symm
    exact (hrun.mp hs).2 (hgrows hnil)
  · rfl

end Sides

/-- Settles O35: the six tests, and each port, tenant and count after an admission. -/
theorem admissionQueuesOrDropsTheCopy : Obligations.AdmissionQueuesOrDropsTheCopy := by
  unfold Obligations.AdmissionQueuesOrDropsTheCopy
  refine ⟨fun s p c => ⟨rfl, kindOfPort_iff⟩, fun s k c p hc hd hfail => ?_, fun s k c p hc hd hpass => ?_⟩
  · rw [exec_admission hc hd, if_neg (mt admits_iff.mp hfail)]
    rfl
  · have hexec := exec_admission hc hd
    rw [if_pos (admits_iff.mpr hpass)] at hexec
    obtain ⟨-, hroom, -⟩ := hpass
    have heq := admitCopy_eq (s.dropNext k) c p
    have hport := admitCopy_port_eq (s.dropNext k) c p
    have hqueued := queuedPort_eq (s.dropNext k) c p
    have hqueue (q : Nat) (d : Cls) : (admitCopy c p (s.dropNext k)).queue q d
        = if q = p ∧ d = c.cls then s.queue q d ++ [admittedFrame s c] else s.queue q d := by
      unfold State.queue
      rw [hport]
      exact queuedPort_queue (s.dropNext k) c p q d
    have htenant := admitCopy_tenant (s.dropNext k) c p
    have hstorm := admitCopy_storm (s := s.dropNext k) (c := c) (p := p)
    refine ⟨_, hexec, ?_, ?_, ?_, fun q d h => ?_, ?_, fun u hu => ?_, fun q => ?_, fun q => ⟨?_, ?_⟩,
      fun q hq h => ?_, fun h2 hf hup hon => admitCopy_turns h2 hf hup hon, fun q h => admitCopy_side q h,
      fun h2 hp hs => ?_, fun ht h => ?_, fun q hq => ?_⟩
    · exact heq
    · rw [heq]
      exact Nat.sub_add_cancel hroom
    · rw [hqueue, if_pos ⟨rfl, rfl⟩]
      rfl
    · rw [hqueue, if_neg fun ⟨h1, h2⟩ => h.elim (· h1) (· h2)]
    · rw [htenant, if_pos rfl]
      rfl
    · rw [htenant, if_neg hu]
      rfl
    · rw [hport]
      rfl
    · rw [hport, hqueued]
      exact ⟨rfl, rfl, rfl, rfl, rfl, rfl, rfl, rfl, rfl, rfl⟩
    · rw [hport, hqueued]
      rfl
    · rw [admitCopy_port_uncounted _ _ _ _ fun ⟨h1, h2⟩ => h.elim (· h2) (· h1), queuedPort, if_neg hq]
      rfl
    · rw [hstorm, if_pos rfl]
      exact joinedPort_storm_starts h2 hp hs
    · rw [hstorm, if_pos rfl]
      exact joinedPort_storm_stays ht h
    · rw [hstorm, if_neg hq]
      rfl

end Sys2Proof.Proofs.Admission

/-! Transmission (R127 to R130): the start of a frame, what is on the wire, and the completion. -/

namespace Sys2Proof.Proofs.Transmission

open Sys2Proof Sys2Proof.Machine Sys2Proof.Safety Sys2Proof.Proofs.Outcomes Sys2Proof.Proofs.Ports
  Sys2Proof.Proofs.Effects Sys2Proof.Proofs.Buffer Sys2Proof.Proofs.PortLaws Sys2Proof.Proofs.FrameIntake
  Sys2Proof.Proofs.Charges

/-! ### The bytes on the wire (R129, "Tenant tag") -/

section Wire
variable {f : QFrame}

theorem tagBytes_length (g : OutTag) : (tagBytes g).length = 8 := rfl

theorem frameByte_frameOnWire (h : 20 ≤ f.data.length) {j : Nat} (hj : j < 8) :
    frameByte (frameOnWire f) (12 + j) = frameByte (tagBytes f.tag) j := by
  have hlen : (f.data.take 12).length = 12 := by rw [List.length_take]; omega
  have htag := tagBytes_length f.tag
  unfold frameByte frameOnWire
  rw [List.append_assoc, List.getD_append_right _ _ _ _ (by omega), hlen, Nat.add_sub_cancel_left,
    List.getD_append _ _ _ _ (by omega)]

theorem frameOnWire_length (h : 20 ≤ f.data.length) : (frameOnWire f).length = f.data.length := by
  unfold frameOnWire
  rw [List.length_append, List.length_append, List.length_take, List.length_drop, tagBytes_length]
  omega

theorem frameOnWire_take (h : 20 ≤ f.data.length) : (frameOnWire f).take 12 = f.data.take 12 := by
  unfold frameOnWire
  rw [List.append_assoc, List.take_left' (by rw [List.length_take]; omega)]

theorem frameOnWire_drop (h : 20 ≤ f.data.length) : (frameOnWire f).drop 20 = f.data.drop 20 := by
  unfold frameOnWire
  rw [List.drop_left' (by rw [List.length_append, List.length_take, tagBytes_length]; omega)]

theorem cls_number_lt (c : Cls) : c.number < 4 := by cases c <;> decide

theorem frameOnWire_tag (h : 20 ≤ f.data.length) (ht : f.tag.tenant < 1024) :
    frameField (frameOnWire f) 12 2 = 0xB7A4
      ∧ frameField (frameOnWire f) 14 2 = 64 * f.tag.tenant + 16 * f.tag.cls.number
          + 8 * f.tag.markCapable.toNat + 4 * f.tag.mark.toNat
      ∧ frameField (frameOnWire f) 16 4 = f.tag.label.toNat := by
  have hbyte {j : Nat} (hj : j < 8) := frameByte_frameOnWire h hj
  refine ⟨?_, ?_, ?_⟩
  · rw [frameField_two, show 12 = 12 + 0 from rfl, hbyte (by decide), hbyte (j := 1) (by decide)]
    rfl
  · have h2 : frameByte (tagBytes f.tag) 2 = (BitVec.ofNat 8 (f.tag.tenant / 4)).toNat := rfl
    have h3 : frameByte (tagBytes f.tag) 3 = (BitVec.ofNat 8 (64 * (f.tag.tenant % 4)
      + 16 * f.tag.cls.number + 8 * f.tag.markCapable.toNat + 4 * f.tag.mark.toNat)).toNat := rfl
    have hcls := cls_number_lt f.tag.cls
    have hcapable := f.tag.markCapable.toNat_le
    have hmark := f.tag.mark.toNat_le
    rw [frameField_two, hbyte (j := 2) (by decide), hbyte (j := 3) (by decide), h2, h3, BitVec.toNat_ofNat,
      BitVec.toNat_ofNat]
    omega
  · have hlabel := f.tag.label.isLt
    have hpart (j : Nat) (w : BitVec 8) (k : Nat) (hw : w = f.tag.label.extractLsb' k 8)
        (hj : (tagBytes f.tag).getD j 0#8 = w) :
        frameByte (tagBytes f.tag) j = f.tag.label.toNat / 2 ^ k % 256 := by
      unfold frameByte
      rw [hj, hw, BitVec.extractLsb'_toNat, Nat.shiftRight_eq_div_pow]
    rw [frameField_four, hbyte (j := 4) (by decide), hbyte (j := 5) (by decide), hbyte (j := 6) (by decide),
      hbyte (j := 7) (by decide), hpart 4 _ 24 rfl rfl, hpart 5 _ 16 rfl rfl, hpart 6 _ 8 rfl rfl,
      hpart 7 _ 0 rfl rfl]
    omega

end Wire

/-! ### The start (R127, R128) -/

section Start
variable {r : Port}

theorem startable_iff {c : Cls} : r.startable c = true ↔ r.queues.get c ≠ [] ∧ r.stateOf c = .ready := by
  unfold Port.startable
  rw [Bool.and_eq_true, beq_iff_eq, Bool.not_eq_true', List.isEmpty_eq_false_iff]

theorem not_startable_of_nil {c : Cls} (h : r.queues.get c = []) : ¬r.startable c = true :=
  fun hs => (startable_iff.mp hs).1 h

/-- R128: the classes of the rotation are never PAUSED. -/
theorem stateOf_rotationClass (i : Fin 4) : r.stateOf (rotationClass i) = .ready := by
  unfold rotationClass
  split <;> rfl

theorem fin4_split : ∀ d : Fin 4,
    ([0, 1, 2, 3] : List (Fin 4)) = (List.finRange 4).take d.val ++ d :: (List.finRange 4).drop (d.val + 1)
      ∧ ∀ e ∈ (List.finRange 4).take d.val, e < d := by decide

theorem rotationPick_eq {i d : Fin 4} (hd : r.startable (rotationClass (i + d)) = true)
    (hn : ∀ e, e < d → ¬r.startable (rotationClass (i + e)) = true) : r.rotationPick i = some (i + d) := by
  have hfind : r.rotationPick i
      = (List.map (i + ·) [0, 1, 2, 3]).find? fun j => r.startable (rotationClass j) := by
    unfold Port.rotationPick
    rw [List.map_cons, add_zero]
    rfl
  rw [hfind, List.find?_map, Option.map_eq_some_iff]
  refine ⟨d, ?_, rfl⟩
  obtain ⟨hsplit, hbefore⟩ := fin4_split d
  rw [List.find?_eq_some_iff_append]
  exact ⟨hd, _, _, hsplit, fun e he => by simpa using hn e (hbefore e he)⟩

/-- R127, R128: the queue that the scheduler chooses. -/
theorem startChoice_eq {c : Cls} {f : QFrame} {rest : List QFrame} {i : Fin 4}
    (hq : r.queues.get c = f :: rest)
    (h : c = .c3 ∧ i = r.rotation
      ∨ c = .c2 ∧ i = r.rotation ∧ r.queues.c3 = [] ∧ r.c2State = .ready
      ∨ r.queues.c3 = [] ∧ (r.queues.c2 = [] ∨ r.c2State ≠ .ready)
        ∧ ∃ d : Fin 4, c = rotationClass (r.rotation + d) ∧ i = r.rotation + d + 1
          ∧ ∀ e : Fin 4, e < d → r.queues.get (rotationClass (r.rotation + e)) = []) :
    r.startChoice = some (c, i) := by
  have hne : r.queues.get c ≠ [] := by rw [hq]; exact List.cons_ne_nil _ _
  unfold Port.startChoice
  rcases h with ⟨rfl, rfl⟩ | ⟨rfl, rfl, h3, hready⟩ | ⟨h3, h2, d, rfl, rfl, hempty⟩
  · rw [if_pos (startable_iff.mpr ⟨hne, rfl⟩)]
  · rw [if_neg (not_startable_of_nil (c := .c3) h3), if_pos (startable_iff.mpr ⟨hne, hready⟩)]
  · have hnot2 : ¬r.startable .c2 = true := fun hs => by
      obtain ⟨hq2, hready⟩ := startable_iff.mp hs
      exact h2.elim hq2 (· hready)
    rw [if_neg (not_startable_of_nil (c := .c3) h3), if_neg hnot2,
      rotationPick_eq (startable_iff.mpr ⟨hne, stateOf_rotationClass _⟩) fun e he =>
        not_startable_of_nil (hempty e he)]
    rfl

end Start

/-- Settles O36: the bytes of the tag, and the choice of the scheduler. -/
theorem aStartTakesTheScheduledFrame : Obligations.AStartTakesTheScheduledFrame := by
  unfold Obligations.AStartTakesTheScheduledFrame
  refine ⟨fun r c f rest ht hq hlen htag => ⟨frameOnWire f, ?_, frameOnWire_length hlen, frameOnWire_take hlen,
    frameOnWire_drop hlen, frameOnWire_tag hlen htag⟩, fun s p r c f rest i hp hr ht hup hslot hq hchoice => ?_⟩
  · unfold Port.onWire
    rw [ht]
    dsimp only
    rw [hq]
    rfl
  · subst hr
    have hstart := startChoice_eq hq hchoice
    have hdue : (s.port p).startDue = true := by
      unfold Port.startDue
      rw [ht, hup, hslot, hstart]
      rfl
    show atPort p (transmissionStart p) s = _
    rw [atPort_of_lt _ _ hp, transmissionStart, if_pos hdue, hstart]
    dsimp only
    unfold startFrom
    dsimp only
    rw [hq, markHead]
    congr 3
    have hocc : s.occupancy p c = cellsOf (f :: rest) := congrArg cellsOf hq
    rw [hocc]
    split <;> rfl

/-! ### Frames that leave the buffer (R130, R133, R137) -/

theorem cells_enteredAt_one (q : Nat) (f : QFrame) :
    cellsOf (enteredAt q [f]) = if f.cls = .c2 ∧ q = f.ingress.val then f.cells else 0 := by
  by_cases hc : f.cls = .c2
  · by_cases hq : q = f.ingress.val
    · simp [enteredAt, cellsOf, hc, hq]
    · simp [enteredAt, cellsOf, hq, Ne.symm hq]
  · simp [enteredAt, cellsOf, hc]

theorem enteredAt_one_ne_nil {q : Nat} {f : QFrame} :
    enteredAt q [f] ≠ [] ↔ ∃ g ∈ (if f.cls = .c2 then [f] else []), g.ingress.val = q := by
  rw [enteredAt_ne_nil]
  split
  · next hc => simp [hc]
  · next hc => simp [hc]

/-- R137: a port whose count the frames have lowered follows them, when its side stood as before. -/
theorem ingressFollows_of_lowered {s t : State} {l left : List QFrame} {q : Nat} {r : Port}
    (hport : t.port q = loweredPort (s.pauseOf q) l r)
    (hside : r.ingress = (s.port q).ingress ∧ r.slot = (s.port q).slot ∧ r.renewal = (s.port q).renewal)
    (hl : l ≠ [] ↔ ∃ f ∈ left, f.ingress.val = q) : IngressFollows s t left q := by
  obtain ⟨hingress, hslot, hrenewal⟩ := hside
  intro falls hfalls
  have hends : falls ↔ pauseEnds (s.pauseOf q) l r := by
    rw [hfalls, pauseEnds, hl, hport, loweredPort_losslessCount, hingress]
  rw [hends, hport]
  refine ⟨fun h => ?_, fun h => ?_⟩
  · rw [loweredPort_of_pauseEnds h]
    exact ⟨rfl, rfl, rfl⟩
  · rw [loweredPort_of_not_pauseEnds h]
    exact ⟨hingress, hslot, hrenewal⟩

/-- Lowering a count keeps what `SamePortState` names. -/
theorem samePortState_lowered {q : PauseSettings} {l : List QFrame} {r r' : Port} (h : SamePortState r r') :
    SamePortState r (loweredPort q l r') := by
  unfold SamePortState
  simp only [loweredPort_link, loweredPort_lane, loweredPort_debounceEnd, loweredPort_holdDownEnd,
    loweredPort_flapHistory, loweredPort_rotation, loweredPort_c2State, loweredPort_pauseEnd,
    loweredPort_recoveryEnd, loweredPort_stormHold]
  exact h

/-! ### The completion (R24, R25, R130) -/

/-- R130: the port once its frame in transmission has left the queue. -/
def sentPort (s : State) (c : Cls) (rest : List QFrame) (r : Port) : Port :=
  s.stormSync { r with queues := r.queues.set c rest, transmitter := .idle }

section Completion
variable {s : State} {p : Nat} {c : Cls} {f : QFrame} {rest : List QFrame}

theorem exec_completion (hp : p < 40) (ht : (s.port p).transmitter = .frame c)
    (hq : s.queue p c = f :: rest) : exec (.transmissionCompletion p) s
      = .next (completeFrame f (s.setPort p (sentPort s c rest (s.port p)))) := by
  have hq : (s.port p).queues.get c = f :: rest := hq
  show atPort p (transmissionCompletion p) s = _
  rw [atPort_of_lt _ _ hp, transmissionCompletion, ht]
  dsimp only
  rw [hq]
  rfl

theorem sentPort_eq (r : Port) : sentPort s c rest r = { r with
    queues := r.queues.set c rest, transmitter := .idle, storm := (sentPort s c rest r).storm } := by
  unfold sentPort
  rw [stormSync_eq]

/-- Each port after a completion: the frame's ingress port lowered, the sending port without the frame. -/
theorem completion_port (q : Nat) :
    (completeFrame f (s.setPort p (sentPort s c rest (s.port p)))).port q
      = loweredPort (s.pauseOf q) (enteredAt q [f])
          (if q = p then sentPort s c rest (s.port p) else s.port q) := by
  rw [(completeFrame_reads _ f).1, releaseFrame_port_eq, State.port_set]
  rfl

theorem sentPort_storm {r : Port} (h : portTimed r) (hq : r.queues.get c = f :: rest) :
    (sentPort s c rest r).storm = if (sentPort s c rest r).queues.c2 = [] then none else r.storm := by
  obtain ⟨-, -, -, -, hrun⟩ := h
  have hqueues : (sentPort s c rest r).queues = r.queues.set c rest := by rw [sentPort_eq]
  rw [hqueues]
  refine stormSync_storm_of_timed rfl rfl (fun hs => (hrun.mp hs).1) fun hp hne => hrun.mpr ⟨hp, ?_⟩
  change PerClass.get _ Cls.c2 ≠ [] at hne
  rw [PerClass.get_set] at hne
  by_cases hc : Cls.c2 = c
  · subst hc
    show r.queues.get .c2 ≠ []
    rw [hq]
    exact List.cons_ne_nil _ _
  · rw [if_neg hc] at hne
    exact hne

end Completion

/-! ### The charge of a completion -/

section Charge
variable (s : State) (f : QFrame)

/-- R4, R18: the state once the frame is out of the buffer, before the charge check. -/
def givenBack : State := lowerInBuffer f.tenant (returnCells f s)

theorem completeFrame_tenants (u : Nat) :
    (completeFrame f s).tenant u = (chargeCheck f (givenBack s f)).tenant u := by
  unfold completeFrame
  rw [lowerLossless_eq]
  rfl

theorem completeFrame_notices : (completeFrame f s).notices = (chargeCheck f (givenBack s f)).notices := by
  unfold completeFrame
  rw [lowerLossless_eq]
  rfl

/-- R18: the frame's departure brings its tenant back to VACANT. -/
def lastOfPurged : Prop := (s.tenant f.tenant).state = .draining ∧ (s.tenant f.tenant).inBuffer ≤ 1
  ∧ s.purgeOutstanding f.tenant = false

variable {s f}

theorem givenBack_stays (h : ¬lastOfPurged s f) : givenBack s f = (returnCells f s).setTenant f.tenant
    { s.tenant f.tenant with inBuffer := (s.tenant f.tenant).inBuffer - 1 } := by
  unfold givenBack lowerInBuffer
  rcases becomeVacantIfDone_cases f.tenant ((returnCells f s).setTenant f.tenant
    { s.tenant f.tenant with inBuffer := (s.tenant f.tenant).inBuffer - 1 }) with ⟨hd, hn, hp, -⟩ | ⟨-, heq⟩
  · rw [State.tenant_set, if_pos rfl] at hd hn
    exact absurd ⟨hd, Nat.sub_eq_zero_iff_le.mp hn, hp⟩ h
  · exact heq

theorem givenBack_vacant (h : lastOfPurged s f) : givenBack s f
    = pend .purgeDone f.tenant (((returnCells f s).setTenant f.tenant
        { s.tenant f.tenant with inBuffer := (s.tenant f.tenant).inBuffer - 1 }).setTenant f.tenant
          vacantTenant) := by
  obtain ⟨hd, hn, hp⟩ := h
  unfold givenBack lowerInBuffer
  rcases becomeVacantIfDone_cases f.tenant ((returnCells f s).setTenant f.tenant
    { s.tenant f.tenant with inBuffer := (s.tenant f.tenant).inBuffer - 1 }) with ⟨-, -, -, heq⟩ | ⟨hnot, -⟩
  · exact heq
  · rw [State.tenant_set, if_pos rfl] at hnot
    exact absurd ⟨hd, Nat.sub_eq_zero_iff_le.mpr hn, hp⟩ hnot

theorem givenBack_tenant_other {u : Nat} (h : u ≠ f.tenant) : (givenBack s f).tenant u = s.tenant u := by
  unfold givenBack
  rw [lowerInBuffer_tenant, if_neg h]
  rfl

theorem chargeCheck_due {v : State} (hu : f.uncharged = false)
    (hs : (v.tenant f.tenant).state.inContract = true) : chargeCheck f v = chargeFrame f.tenant f.cls f.len v := by
  unfold chargeCheck
  rw [hu, hs]
  rfl

theorem chargeCheck_not_due {v : State}
    (h : f.uncharged = true ∨ (v.tenant f.tenant).state.inContract = false) : chargeCheck f v = v := by
  unfold chargeCheck
  rcases h with h | h
  · rw [h]
    rfl
  · rw [h, Bool.and_false]
    rfl

theorem chargeCheck_tenant_other {v : State} {u : Nat} (h : u ≠ f.tenant) :
    (chargeCheck f v).tenant u = v.tenant u := by
  unfold chargeCheck
  split
  · rw [chargeFrame_tenant, if_neg h]
  · rfl

/-- R25: the notices of a charge. -/
theorem mem_noticeSet_pendIf (b : Bool) (k j : NoticeKind) (x u : Nat) (v : State) :
    u ∈ (pendIf b k x v).noticeSet j ↔ u ∈ v.noticeSet j ∨ j = k ∧ b = true ∧ u = x := by
  unfold pendIf
  split
  · next hb =>
    rw [pend_noticeSet]
    split
    · next hj =>
      subst hj
      rw [mem_setInsert]
      simp [hb, or_comm]
    · next hj => simp [hj]
  · next hb => simp [hb]

theorem pendIf_noticeSet_other (b : Bool) {k j : NoticeKind} (x : Nat) (v : State) (h : j ≠ k) :
    (pendIf b k x v).noticeSet j = v.noticeSet j := by
  unfold pendIf
  split
  · rw [pend_noticeSet, if_neg h]
  · rfl

theorem crossedAllowance_iff {r : Tenant} {product : Nat} {c : Cls} {len : Nat} :
    (chargeRecord r product c len).crossedAllowance = true
      ↔ 0 < r.allowance ∧ (chargeRecord r product c len).record.allowance = 0 := by
  rw [chargeRecord_crossedAllowance, chargeRecord_record, Bool.and_eq_true, decide_eq_true_iff,
    decide_eq_true_iff, Nat.sub_eq_zero_iff_le]

theorem crossedCeiling_iff {r : Tenant} {product : Nat} {c : Cls} {len : Nat} :
    (chargeRecord r product c len).crossedCeiling = true
      ↔ 0 < r.ceiling ∧ r.overage < r.ceiling
        ∧ r.ceiling ≤ (chargeRecord r product c len).record.overage := by
  rw [chargeRecord_crossedCeiling, chargeRecord_record, Bool.and_eq_true, Bool.and_eq_true,
    decide_eq_true_iff, decide_eq_true_iff, decide_eq_true_iff, and_assoc]

/-- R25, R32 to R34: a charge pends each of its three notices when the record says so, and no other. -/
theorem chargeFrame_notices {v : State} {x : Nat} {c : Cls} {len : Nat} {r : Tenant} {y : Charged}
    (hr : v.tenant x = r) (hy : y = chargeRecord r (chargeProduct (v.profile r.profile) v.clock c len) c len) :
    (∀ u, u ∈ (chargeFrame x c len v).noticeSet .tenantOverage ↔ u ∈ v.noticeSet .tenantOverage
        ∨ u = x ∧ 0 < r.allowance ∧ y.record.allowance = 0)
      ∧ (∀ u, u ∈ (chargeFrame x c len v).noticeSet .tenantThrottled ↔ u ∈ v.noticeSet .tenantThrottled
        ∨ u = x ∧ 0 < r.ceiling ∧ r.overage < r.ceiling ∧ r.ceiling ≤ y.record.overage)
      ∧ (∀ u, u ∈ (chargeFrame x c len v).noticeSet .meterSaturated ↔ u ∈ v.noticeSet .meterSaturated
        ∨ u = x ∧ y.saturatedNow = true)
      ∧ ∀ k, k ≠ .tenantOverage → k ≠ .tenantThrottled → k ≠ .meterSaturated →
          (chargeFrame x c len v).noticeSet k = v.noticeSet k := by
  have hcharge : chargeFrame x c len v = pendIf y.crossedAllowance .tenantOverage x
      (pendIf y.crossedCeiling .tenantThrottled x
        (pendIf y.saturatedNow .meterSaturated x (v.setTenant x y.record))) := by
    unfold chargeFrame
    dsimp only
    rw [hr, ← hy]
  have hset (j : NoticeKind) : (v.setTenant x y.record).noticeSet j = v.noticeSet j := rfl
  rw [hcharge]
  refine ⟨fun u => ?_, fun u => ?_, fun u => ?_, fun k h1 h2 h3 => ?_⟩
  · rw [mem_noticeSet_pendIf, pendIf_noticeSet_other _ _ _ (by decide), pendIf_noticeSet_other _ _ _ (by decide),
      hset, hy, crossedAllowance_iff]
    simp only [true_and, and_comm (b := u = x)]
  · rw [pendIf_noticeSet_other _ _ _ (by decide), mem_noticeSet_pendIf, pendIf_noticeSet_other _ _ _ (by decide),
      hset, hy, crossedCeiling_iff]
    simp only [true_and, and_comm (b := u = x)]
  · rw [pendIf_noticeSet_other _ _ _ (by decide), pendIf_noticeSet_other _ _ _ (by decide), mem_noticeSet_pendIf,
      hset]
    simp only [true_and, and_comm (b := u = x)]
  · rw [pendIf_noticeSet_other _ _ _ h1, pendIf_noticeSet_other _ _ _ h2, pendIf_noticeSet_other _ _ _ h3, hset]

end Charge

theorem noticeSet_congr {s t : State} (h : t.notices = s.notices) (k : NoticeKind) :
    t.noticeSet k = s.noticeSet k := by
  unfold State.noticeSet
  rw [h]

section Accounts
variable {v : State} {f : QFrame} {r : Tenant}

/-- R25: a frame that is due is charged to its tenant's record as the count has left it. -/
theorem completeFrame_due (hr : r = v.tenant f.tenant) (hu : f.uncharged = false)
    (hs : r.state.inContract = true) :
    ∃ x, x = chargeRecord { r with inBuffer := r.inBuffer - 1 }
        (chargeProduct (v.profile r.profile) v.clock f.cls f.len) f.cls f.len
      ∧ (completeFrame f v).tenant f.tenant = x.record
      ∧ (∀ u, u ∈ (completeFrame f v).noticeSet .tenantOverage ↔ u ∈ v.noticeSet .tenantOverage
          ∨ u = f.tenant ∧ 0 < r.allowance ∧ x.record.allowance = 0)
      ∧ (∀ u, u ∈ (completeFrame f v).noticeSet .tenantThrottled ↔ u ∈ v.noticeSet .tenantThrottled
          ∨ u = f.tenant ∧ 0 < r.ceiling ∧ r.overage < r.ceiling ∧ r.ceiling ≤ x.record.overage)
      ∧ (∀ u, u ∈ (completeFrame f v).noticeSet .meterSaturated ↔ u ∈ v.noticeSet .meterSaturated
          ∨ u = f.tenant ∧ x.saturatedNow = true)
      ∧ ∀ k, k ≠ .tenantOverage → k ≠ .tenantThrottled → k ≠ .meterSaturated →
          (completeFrame f v).noticeSet k = v.noticeSet k := by
  subst hr
  have hgiven := givenBack_stays (s := v) (f := f) fun h => by rw [h.1] at hs; cases hs
  have htenant : (givenBack v f).tenant f.tenant
      = { v.tenant f.tenant with inBuffer := (v.tenant f.tenant).inBuffer - 1 } := by
    rw [hgiven, State.tenant_set, if_pos rfl]
  have hprofile (n : Nat) : (givenBack v f).profile n = v.profile n := by rw [hgiven]; rfl
  have hclock : (givenBack v f).clock = v.clock := by rw [hgiven]; rfl
  have hnotice (k : NoticeKind) : (givenBack v f).noticeSet k = v.noticeSet k := by rw [hgiven]; rfl
  have hcharge : chargeCheck f (givenBack v f) = chargeFrame f.tenant f.cls f.len (givenBack v f) :=
    chargeCheck_due hu (by rw [htenant]; exact hs)
  have hset (k : NoticeKind) : (completeFrame f v).noticeSet k
      = (chargeFrame f.tenant f.cls f.len (givenBack v f)).noticeSet k :=
    noticeSet_congr ((completeFrame_notices v f).trans (by rw [hcharge])) k
  obtain ⟨hover, hthrottle, hsat, hothers⟩ := chargeFrame_notices htenant rfl
  refine ⟨_, rfl, ?_, fun u => ?_, fun u => ?_, fun u => ?_, fun k h1 h2 h3 => ?_⟩
  · rw [completeFrame_tenants, hcharge, chargeFrame_tenant, if_pos rfl, htenant, hprofile, hclock]
  · rw [hset, hover, hnotice, hprofile, hclock]
  · rw [hset, hthrottle, hnotice, hprofile, hclock]
  · rw [hset, hsat, hnotice, hprofile, hclock]
  · rw [hset, hothers k h1 h2 h3, hnotice]

/-- R4, R18: a frame that is not due changes its tenant's count, or ends its tenant's purge. -/
theorem completeFrame_not_due (hr : r = v.tenant f.tenant)
    (h : f.uncharged = true ∨ r.state.inContract = false) :
    (¬(r.state = .draining ∧ r.inBuffer ≤ 1 ∧ v.purgeOutstanding f.tenant = false) →
        (completeFrame f v).tenant f.tenant = { r with inBuffer := r.inBuffer - 1 }
        ∧ (completeFrame f v).notices = v.notices)
      ∧ (r.state = .draining ∧ r.inBuffer ≤ 1 ∧ v.purgeOutstanding f.tenant = false →
        (completeFrame f v).tenant f.tenant = vacantTenant
        ∧ (∀ u, u ∈ (completeFrame f v).noticeSet .purgeDone ↔ u ∈ v.noticeSet .purgeDone ∨ u = f.tenant)
        ∧ ∀ k, k ≠ .purgeDone → (completeFrame f v).noticeSet k = v.noticeSet k) := by
  subst hr
  refine ⟨fun hstay => ?_, fun hlast => ?_⟩
  · have hgiven := givenBack_stays (s := v) (f := f) hstay
    have htenant : (givenBack v f).tenant f.tenant
        = { v.tenant f.tenant with inBuffer := (v.tenant f.tenant).inBuffer - 1 } := by
      rw [hgiven, State.tenant_set, if_pos rfl]
    have hcheck : chargeCheck f (givenBack v f) = givenBack v f := chargeCheck_not_due (by rw [htenant]; exact h)
    rw [completeFrame_tenants, completeFrame_notices, hcheck, htenant, hgiven]
    exact ⟨rfl, rfl⟩
  · have hgiven := givenBack_vacant (s := v) (f := f) hlast
    have htenant : (givenBack v f).tenant f.tenant = vacantTenant := by
      rw [hgiven, pend_tenant, State.tenant_set, if_pos rfl]
    have hcheck : chargeCheck f (givenBack v f) = givenBack v f := chargeCheck_not_due (by rw [htenant]; exact .inr rfl)
    have hset (k : NoticeKind) : (completeFrame f v).noticeSet k
        = (if k = .purgeDone then setInsert (v.noticeSet .purgeDone) f.tenant else v.noticeSet k) := by
      rw [noticeSet_congr ((completeFrame_notices v f).trans (by rw [hcheck, hgiven])) k, pend_noticeSet]
      rfl
    refine ⟨?_, fun u => ?_, fun k hk => ?_⟩
    · rw [completeFrame_tenants, hcheck, htenant]
    · rw [hset, if_pos rfl, mem_setInsert, or_comm]
    · rw [hset, if_neg hk]

end Accounts

/-- Settles O37: each port by the frame released, and the tenant's record by the charge check. -/
theorem aCompletionReleasesAndCharges : Obligations.ACompletionReleasesAndCharges := by
  unfold Obligations.ACompletionReleasesAndCharges
  intro s p c f rest r hp ht hq hr
  have hport (q : Nat) := completion_port (s := s) (p := p) (c := c) (f := f) (rest := rest) q
  have hsent := sentPort_eq (s := s) (c := c) (rest := rest) (s.port p)
  have hfree : (completeFrame f (s.setPort p (sentPort s c rest (s.port p)))).freeCount = s.freeCount + f.cells := by
    rw [(completeFrame_reads _ f).2.1, releaseFrame_eq]
    rfl
  have htenants (u : Nat) : (s.setPort p (sentPort s c rest (s.port p))).tenant u = s.tenant u := rfl
  have hdue := completeFrame_due (v := s.setPort p (sentPort s c rest (s.port p))) (f := f) hr
  have hnotdue := completeFrame_not_due (v := s.setPort p (sentPort s c rest (s.port p))) (f := f) hr
  have hbuffer := onlyBuffer_trans (onlyBuffer_setPort (s := s) p (sentPort s c rest (s.port p)))
    (onlyBuffer_completeFrame _ f)
  have hother (u : Nat) (hu : u ≠ f.tenant) := (completeFrame_tenants
    (s.setPort p (sentPort s c rest (s.port p))) f u).trans
      ((chargeCheck_tenant_other hu).trans (givenBack_tenant_other hu))
  refine ⟨_, exec_completion hp ht hq, hbuffer, ?_, ?_, fun q d h => ?_, fun q => ?_, fun q hqp hqi => ?_, hfree,
    fun q => ?_, fun q => ?_, fun q hqp => ?_, fun htimed => ?_, hother, hdue, hnotdue⟩
  · unfold State.queue
    rw [hport, if_pos rfl, loweredPort_queues, hsent, PerClass.get_set, if_pos rfl]
  · rw [hport, if_pos rfl, loweredPort_transmitter, hsent]
  · unfold State.queue
    rw [hport, loweredPort_queues]
    split
    · next hqp =>
      subst hqp
      rw [hsent, PerClass.get_set, if_neg (h.resolve_left fun h => h rfl)]
    · rfl
  · rw [hport]
    refine samePortState_lowered ?_
    split
    · next hqp =>
      subst hqp
      rw [hsent]
      exact ⟨rfl, rfl, rfl, rfl, rfl, rfl, rfl, rfl, rfl, rfl⟩
    · exact ⟨rfl, rfl, rfl, rfl, rfl, rfl, rfl, rfl, rfl, rfl⟩
  · have hnil : enteredAt q [f] = [] := by
      by_contra hne
      obtain ⟨g, hg, -, hgq⟩ := enteredAt_ne_nil.mp hne
      rw [List.mem_singleton.mp hg] at hgq
      exact hqi hgq.symm
    rw [hport, if_neg hqp, hnil, loweredPort_nil]
  · rw [hport, loweredPort_losslessCount, cells_enteredAt_one]
    split
    · next hqp =>
      subst hqp
      rw [hsent]
    · rfl
  · refine ingressFollows_of_lowered (hport q) ?_ enteredAt_one_ne_nil
    split
    · next hqp =>
      subst hqp
      rw [hsent]
      exact ⟨rfl, rfl, rfl⟩
    · exact ⟨rfl, rfl, rfl⟩
  · rw [hport, if_neg hqp, loweredPort_storm]
  · unfold State.queue
    rw [hport, if_pos rfl, loweredPort_storm, loweredPort_queues]
    exact sentPort_storm htimed hq

end Sys2Proof.Proofs.Transmission

/-! Frames that leave uncharged: a port that leaves UP (R155), the down effects (R157), a storm (R144), and the
pass end (R172). -/

namespace Sys2Proof.Proofs.Departures

open Sys2Proof Sys2Proof.Machine Sys2Proof.Safety Sys2Proof.Proofs.Outcomes Sys2Proof.Proofs.Ports
  Sys2Proof.Proofs.Effects Sys2Proof.Proofs.Buffer Sys2Proof.Proofs.PortLaws Sys2Proof.Proofs.TenantLaws
  Sys2Proof.Proofs.Transmission

/-! ### The tenants of the frames that leave (R4, R18) -/

section Uncharged
variable {s t u : State} {n m : Nat → Nat}

theorem leftUncharged_releaseFrames (s : State) (l : List QFrame) :
    LeftUncharged s (l.foldl (fun s f => releaseFrame f s) s) fun u => framesOf u l := by
  have htenant := releaseFrames_tenant l s
  refine ⟨fun u => ⟨fun h => (htenant u).trans (if_pos h), fun h => (htenant u).trans (if_neg h)⟩, fun u => ?_⟩
  rw [releaseFrames_noticeSet]
  exact or_congr_right (and_iff_right rfl)

/-- The law is seen in the tenants and in one pending set. -/
theorem leftUncharged_of_reads (h : LeftUncharged s t n) (htenant : ∀ x, u.tenant x = t.tenant x)
    (hset : u.noticeSet .purgeDone = t.noticeSet .purgeDone) : LeftUncharged s u n := by
  obtain ⟨htenants, hnotices⟩ := h
  refine ⟨fun x => ?_, fun x => ?_⟩
  · rw [htenant]
    exact htenants x
  · rw [hset]
    exact hnotices x

/-- Departures in turn take what they take in all. -/
theorem leftUncharged_trans (h : LeftUncharged s t n) (h' : LeftUncharged t u m)
    (hpurge : ∀ x, t.purgeOutstanding x = s.purgeOutstanding x) :
    LeftUncharged s u fun x => n x + m x := by
  have hstep (x : Nat) : (ReturnsToVacant s x (n x + m x) ↔ ReturnsToVacant s x (n x) ∨ ReturnsToVacant t x (m x))
      ∧ (ReturnsToVacant s x (n x) → ¬ReturnsToVacant t x (m x)) := by
    by_cases hv : ReturnsToVacant s x (n x)
    · have htenant := (h.1 x).1 hv
      have hnot : ¬ReturnsToVacant t x (m x) := fun ⟨_, hd, _⟩ => by
        rw [htenant] at hd
        cases hd
      obtain ⟨hn, hd, hle, hp⟩ := hv
      exact ⟨iff_of_true ⟨by omega, hd, by omega, hp⟩ (.inl ⟨hn, hd, hle, hp⟩), fun _ => hnot⟩
    · have htenant := (h.1 x).2 hv
      refine ⟨?_, fun h => absurd h hv⟩
      unfold ReturnsToVacant at hv ⊢
      rw [htenant, hpurge]
      dsimp only
      constructor
      · rintro ⟨hpos, hd, hle, hp⟩
        refine .inr ⟨?_, hd, by omega, hp⟩
        by_contra hm
        exact hv ⟨by omega, hd, by omega, hp⟩
      · rintro (hv' | ⟨hpos, hd, hle, hp⟩)
        · exact absurd hv' hv
        · exact ⟨by omega, hd, by omega, hp⟩
  refine ⟨fun x => ⟨fun hv => ?_, fun hv => ?_⟩, fun x => ?_⟩
  · rcases (hstep x).1.mp hv with hv | hv
    · rw [(h'.1 x).2 ((hstep x).2 hv), (h.1 x).1 hv]
      exact congrArg (fun k => { vacantTenant with inBuffer := k }) (Nat.zero_sub _)
    · exact (h'.1 x).1 hv
  · obtain ⟨hs, ht⟩ := not_or.mp (mt (hstep x).1.mpr hv)
    rw [(h'.1 x).2 ht, (h.1 x).2 hs]
    exact congrArg (fun k => { s.tenant x with inBuffer := k }) (Nat.sub_sub _ _ _)
  · rw [h'.2, h.2, (hstep x).1, or_assoc]

theorem leftUncharged_flushQueue (s : State) (p : Nat) (c : Cls) :
    LeftUncharged s (flushQueue p c s) fun u => framesOf u (s.queue p c) :=
  leftUncharged_releaseFrames (s.setPort p _) _

/-- R157 step 1: what the four flushes take from each tenant. -/
theorem leftUncharged_flushAll (s : State) (p : Nat) :
    LeftUncharged s (flushAll p s) fun u => portFramesOf u (s.port p) := by
  have h0 := leftUncharged_flushQueue s p .c0
  have h1 := leftUncharged_flushQueue (flushQueue p .c0 s) p .c1
  have h2 := leftUncharged_flushQueue (flushQueue p .c1 (flushQueue p .c0 s)) p .c2
  have h3 := leftUncharged_flushQueue (flushQueue p .c2 (flushQueue p .c1 (flushQueue p .c0 s))) p .c3
  simp only [flushQueue_queue _ (.inr (by decide : Cls.c1 ≠ .c0)),
    flushQueue_queue _ (.inr (by decide : Cls.c2 ≠ .c0)), flushQueue_queue _ (.inr (by decide : Cls.c2 ≠ .c1)),
    flushQueue_queue _ (.inr (by decide : Cls.c3 ≠ .c0)), flushQueue_queue _ (.inr (by decide : Cls.c3 ≠ .c1)),
    flushQueue_queue _ (.inr (by decide : Cls.c3 ≠ .c2))] at h1 h2 h3
  have hpurge (v : State) (c : Cls) := purgeOutstanding_buffer (onlyBuffer_flushQueue v p c)
  have h01 := leftUncharged_trans h0 h1 (hpurge s .c0)
  have h012 := leftUncharged_trans h01 h2 fun x => (hpurge _ .c1 x).trans (hpurge s .c0 x)
  exact leftUncharged_trans h012 h3 fun x => (hpurge _ .c2 x).trans ((hpurge _ .c1 x).trans (hpurge s .c0 x))

end Uncharged

theorem samePortState_refl (r : Port) : SamePortState r r :=
  ⟨rfl, rfl, rfl, rfl, rfl, rfl, rfl, rfl, rfl, rfl⟩

theorem flushQueue_otherNotices (s : State) (p : Nat) (c : Cls) {k : NoticeKind} (h : k ≠ .purgeDone) :
    (flushQueue p c s).noticeSet k = s.noticeSet k := releaseFrames_otherNotices _ _ h

/-! ### A port leaves UP (R139, R155) -/

section Abort
variable {s : State} {p : Nat} {l : LinkState}

theorem abortedFrames_of_frame {r : Port} {c : Cls} {f : QFrame} {rest : List QFrame}
    (ht : r.transmitter = .frame c) (hq : r.queues.get c = f :: rest) : abortedFrames r = [f] := by
  unfold abortedFrames
  rw [ht]
  dsimp only
  rw [hq]
  rfl

theorem abortedFrames_of_none {r : Port} (h : ∀ c, r.transmitter = .frame c → r.queues.get c = []) :
    abortedFrames r = [] := by
  unfold abortedFrames
  rcases ht : r.transmitter with _ | c | m
  · rfl
  · show (r.queues.get c).take 1 = []
    rw [h c ht]
    rfl
  · rfl

theorem abortedPort_of_frame (s : State) {r : Port} {c : Cls} {f : QFrame} {rest : List QFrame}
    (ht : r.transmitter = .frame c) (hq : r.queues.get c = f :: rest) :
    abortedPort s r = sentPort s c rest r := by
  unfold abortedPort
  rw [ht]
  dsimp only
  rw [hq, if_neg (List.cons_ne_nil _ _)]
  rfl

theorem abortedPort_of_none (s : State) {r : Port} (h : ∀ c, r.transmitter = .frame c → r.queues.get c = []) :
    abortedPort s r = { r with transmitter := .idle } := by
  unfold abortedPort
  rcases ht : r.transmitter with _ | c | m
  · exact (idle_eta ht).symm
  · exact if_pos (h c ht)
  · rfl

/-- R143: an abort stops the storm timer of an emptied C2 queue. -/
theorem abortedPort_storm_eq (s : State) {r : Port}
    (h : r.storm.isSome = true ↔ r.c2State = .paused ∧ r.queues.c2 ≠ []) :
    (abortedPort s r).storm = if (abortedPort s r).queues.c2 = [] then none else r.storm := by
  by_cases hframe : ∃ c f rest, r.transmitter = .frame c ∧ r.queues.get c = f :: rest
  · obtain ⟨c, f, rest, ht, hq⟩ := hframe
    rw [abortedPort_of_frame s ht hq, sentPort]
    rw [stormSync_queues]
    refine stormSync_storm_of_timed rfl rfl (fun hs => (h.mp hs).1) fun hp hne => h.mpr ⟨hp, ?_⟩
    change PerClass.get (PerClass.set _ _ _) .c2 ≠ [] at hne
    rw [PerClass.get_set] at hne
    by_cases hc : Cls.c2 = c
    · show r.queues.get .c2 ≠ []
      rw [hc, hq]
      exact List.cons_ne_nil _ _
    · rw [if_neg hc] at hne
      exact hne
  · have hnone : ∀ c, r.transmitter = .frame c → r.queues.get c = [] := fun c ht => by
      rcases hq : r.queues.get c with _ | ⟨f, rest⟩
      · rfl
      · exact absurd ⟨c, f, rest, ht, hq⟩ hframe
    rw [abortedPort_of_none s hnone]
    show r.storm = if r.queues.c2 = [] then none else r.storm
    split
    · next hnil => exact Option.not_isSome_iff_eq_none.mp fun hs => (h.mp hs).2 hnil
    · rfl

/-- A port that is FLOWING ends no pause. -/
theorem loweredPort_of_flowing {q : PauseSettings} {l : List QFrame} {r : Port} (h : r.ingress = .flowing) :
    loweredPort q l r = { r with losslessCount := r.losslessCount - cellsOf l } :=
  loweredPort_of_not_pauseEnds fun ⟨_, hp, _⟩ => nomatch h.symm.trans hp

theorem leaveUp_port_same : (leaveUp p l s).port p = { leftUpPort s l (s.port p) with
    losslessCount := (leftUpPort s l (s.port p)).losslessCount
      - cellsOf (enteredAt p (abortedFrames (s.port p))) } := by
  rw [leaveUp_port, if_pos rfl, loweredPort_of_flowing]
  rw [leftUpPort_eq]

theorem leaveUp_port_other {q : Nat} (h : q ≠ p) : (leaveUp p l s).port q
    = loweredPort (s.pauseOf q) (enteredAt q (abortedFrames (s.port p))) (s.port q) := by
  rw [leaveUp_port, if_neg h]

/-- The abort of the port whose ingress side has been cleared (R139, R155). -/
theorem leaveUp_cases (s : State) (p : Nat) (l : LinkState) :
    (∃ c f rest, (s.port p).transmitter = .frame c ∧ s.queue p c = f :: rest
      ∧ ∃ v, leaveUp p l s = releaseFrame f v ∧ v = { s with ports := v.ports })
    ∨ ((∀ c, (s.port p).transmitter = .frame c → s.queue p c = [])
      ∧ leaveUp p l s = { s with ports := (leaveUp p l s).ports }) := by
  have hport : (s.setPort p { s.port p with link := l }.ingressCleared).port p
      = { s.port p with link := l }.ingressCleared := by rw [State.port_set, if_pos rfl]
  rcases abortTransmission_cases (s.setPort p { s.port p with link := l }.ingressCleared) p with
    ⟨c, f, rest, ht, hq, h⟩ | ⟨hnone, -, -, h⟩
  · unfold State.queue at hq
    rw [hport] at ht hq
    exact .inl ⟨c, f, rest, ht, hq, _, h, rfl⟩
  · unfold State.queue at hnone
    rw [hport] at hnone
    refine .inr ⟨hnone, ?_⟩
    unfold leaveUp
    rcases h with h | ⟨-, h⟩
    · rw [h]
      rfl
    · rw [h]
      rfl

end Abort

/-- Settles O38: the port by its cleared side and aborted frame, the tenant and the ingress port by the frame. -/
theorem leavingUpAbortsTheFrame : Obligations.LeavingUpAbortsTheFrame := by
  unfold Obligations.LeavingUpAbortsTheFrame
  intro s p l
  have hleft := leftUpPort_eq s l (s.port p)
  have hsame := leaveUp_port_same (s := s) (p := p) (l := l)
  have hother (q : Nat) (hq : q ≠ p) := leaveUp_port_other (s := s) (p := p) (l := l) hq
  have hqueues : ((leaveUp p l s).port p).queues = (leftUpPort s l (s.port p)).queues := by rw [hsame]
  have hcount : ((leaveUp p l s).port p).losslessCount
      = (s.port p).losslessCount - cellsOf (enteredAt p (abortedFrames (s.port p))) := by
    rw [hsame, hleft]
  refine ⟨_, rfl, onlyBuffer_leaveUp s p l, by rw [hsame, hleft], by rw [hsame, hleft], by rw [hsame, hleft],
    by rw [hsame, hleft], by rw [hsame, hleft], by rw [hsame, hleft], by rw [hsame, hleft], by rw [hsame, hleft],
    by rw [hsame, hleft], by rw [hsame, hleft], by rw [hsame, hleft], by rw [hsame, hleft], by rw [hsame, hleft],
    by rw [hsame, hleft], fun ht => ?_, fun q hq => ?_, fun k hk => ?_, fun c f rest ht hq => ?_,
    fun hnone => ?_⟩
  · obtain ⟨-, -, -, -, hrun⟩ := ht
    unfold State.queue
    rw [hqueues, hsame]
    exact abortedPort_storm_eq s (r := { s.port p with link := l }.ingressCleared) hrun
  · rw [hother q hq, loweredPort_storm, loweredPort_transmitter, loweredPort_queues]
    exact ⟨samePortState_lowered (samePortState_refl _), rfl, rfl, rfl⟩
  · rcases leaveUp_cases s p l with ⟨c, f, rest, -, -, v, h, hv⟩ | ⟨-, h⟩
    · rw [h, hv]
      exact releaseFrames_otherNotices [f] _ hk
    · rw [h]
      rfl
  · have hframes := abortedFrames_of_frame ht hq
    have hport : leftUpPort s l (s.port p)
        = sentPort s c rest { s.port p with link := l }.ingressCleared := abortedPort_of_frame s ht hq
    have hset : ((leaveUp p l s).port p).queues = (s.port p).queues.set c rest := by
      rw [hqueues, hport, sentPort_eq]
      rfl
    obtain ⟨c', f', rest', ht', hq', v, hv, hvs⟩ | ⟨hnone, -⟩ := leaveUp_cases s p l
    · rw [ht] at ht'
      cases ht'
      rw [hq] at hq'
      cases hq'
      refine ⟨?_, fun d hd => ?_, ?_, ?_, fun q => ?_, fun q hqp => ?_⟩
      · unfold State.queue
        rw [hset, PerClass.get_set, if_pos rfl]
      · unfold State.queue
        rw [hset, PerClass.get_set, if_neg hd]
      · rw [hv, releaseFrame_eq, hvs]
      · rw [hv, hvs]
        have h := leftUncharged_releaseFrames { s with ports := v.ports } [f]
        have hone : (fun u => framesOf u [f]) = fun u => if u = f.tenant then 1 else 0 := funext fun u => by
          by_cases hu : u = f.tenant
          · simp [framesOf, hu]
          · simp [framesOf, hu, Ne.symm hu]
        rw [hone] at h
        exact h
      · rw [← cells_enteredAt_one, ← hframes]
        by_cases hqp : q = p
        · subst hqp
          exact hcount
        · rw [hother q hqp, loweredPort_losslessCount]
      · refine ingressFollows_of_lowered (hother q hqp) ⟨rfl, rfl, rfl⟩ ?_
        rw [hframes]
        exact enteredAt_one_ne_nil
    · exact absurd (hq.symm.trans (hnone c ht)) (List.cons_ne_nil _ _)
  · have hframes := abortedFrames_of_none hnone
    have hport : leftUpPort s l (s.port p) = { { s.port p with link := l }.ingressCleared with
        transmitter := .idle } := abortedPort_of_none s hnone
    obtain ⟨c, f, rest, ht, hq, -⟩ | ⟨-, h⟩ := leaveUp_cases s p l
    · exact absurd (hq.symm.trans (hnone c ht)) (List.cons_ne_nil _ _)
    · refine ⟨?_, by rw [h], by rw [h], by rw [h], ?_, fun q hqp => ?_⟩
      · rw [hqueues, hport]
        rfl
      · rw [hcount, hframes]
        rfl
      · rw [hother q hqp, hframes]
        rfl

/-! ### The down effects (R131, R157) -/

section Down
variable (s : State) (p : Nat)

/-- A frame of a C2 queue that holds C2 frames only. -/
theorem enteredAt_of_c2 {q : Nat} {l : List QFrame} (h : ∀ f ∈ l, f.cls = .c2) :
    enteredAt q l = l.filter fun f => f.ingress.val == q :=
  List.filter_congr fun f hf => by rw [h f hf]; rfl

theorem enteredAt_of_other {q : Nat} {c : Cls} {l : List QFrame} (h : ∀ f ∈ l, f.cls = c) (hc : c ≠ .c2) :
    enteredAt q l = [] :=
  List.filter_eq_nil_iff.mpr fun f hf => by
    rw [h f hf, beq_eq_false_iff_ne.mpr hc]
    exact Bool.false_ne_true

theorem cellsFrom_eq {q : Fin 40} {l : List QFrame} (h : ∀ f ∈ l, f.cls = .c2) :
    cellsOf (enteredAt q l) = cellsFrom q l := by
  rw [enteredAt_of_c2 h]
  refine congrArg cellsOf (List.filter_congr fun f _ => ?_)
  rw [Bool.eq_iff_iff, beq_iff_eq, beq_iff_eq, Fin.ext_iff]

theorem enteredAt_ne_nil_of_c2 {q : Nat} {l : List QFrame} (h : ∀ f ∈ l, f.cls = .c2) :
    enteredAt q l ≠ [] ↔ ∃ f ∈ l, f.ingress.val = q := by
  rw [enteredAt_ne_nil]
  exact exists_congr fun f => and_congr_right fun hf => and_iff_right (h f hf)

/-- R120: where each queue holds its own class, the frames that count are those of C2. -/
theorem enteredAt_portFrames {r : Port} {q : Nat} (h : classesMatch r) :
    enteredAt q (portFrames r) = enteredAt q r.queues.c2 := by
  have h0 : enteredAt q r.queues.c0 = [] := enteredAt_of_other (h .c0) (by decide)
  have h1 : enteredAt q r.queues.c1 = [] := enteredAt_of_other (h .c1) (by decide)
  have h3 : enteredAt q r.queues.c3 = [] := enteredAt_of_other (h .c3) (by decide)
  unfold portFrames
  rw [enteredAt_append, enteredAt_append, enteredAt_append, h0, h1, h3, List.append_nil, List.nil_append,
    List.nil_append]

theorem flushQueue_cells (c : Cls) :
    (flushQueue p c s).freeCount = s.freeCount + cellsOf (s.queue p c) := flushQueue_freeCount p c s

theorem flushAll_freeCount : (flushAll p s).freeCount = s.freeCount + portCells (s.port p) := by
  unfold flushAll portCells
  simp only [flushQueue_cells, flushQueue_queue _ (.inr (by decide : Cls.c1 ≠ .c0)),
    flushQueue_queue _ (.inr (by decide : Cls.c2 ≠ .c0)), flushQueue_queue _ (.inr (by decide : Cls.c2 ≠ .c1)),
    flushQueue_queue _ (.inr (by decide : Cls.c3 ≠ .c0)), flushQueue_queue _ (.inr (by decide : Cls.c3 ≠ .c1)),
    flushQueue_queue _ (.inr (by decide : Cls.c3 ≠ .c2)), Nat.add_assoc]
  rfl

theorem flushAll_otherNotices {k : NoticeKind} (h : k ≠ .purgeDone) :
    (flushAll p s).noticeSet k = s.noticeSet k := by
  unfold flushAll
  rw [flushQueue_otherNotices _ _ _ h, flushQueue_otherNotices _ _ _ h, flushQueue_otherNotices _ _ _ h,
    flushQueue_otherNotices _ _ _ h]

theorem postFlush_reads (b : Prop) [Decidable b] (v : State) :
    (if b then postFlush p v else v).freeCount = v.freeCount
      ∧ ∀ k, (if b then postFlush p v else v).noticeSet k = v.noticeSet k := by
  split
  · exact ⟨rfl, fun _ => rfl⟩
  · exact ⟨rfl, fun _ => rfl⟩

theorem downEffects_freeCount : (downEffects p s).freeCount = s.freeCount + portCells (s.port p) := by
  rw [← flushAll_freeCount]
  unfold downEffects
  dsimp only
  rw [(postFlush_reads p (p < 32) _).1, pend_freeCount, State.setPort_freeCount, flushAll]

theorem downEffects_noticeSet (k : NoticeKind) : (downEffects p s).noticeSet k
    = if k = .linkDown then setInsert ((flushAll p s).noticeSet .linkDown) p else (flushAll p s).noticeSet k := by
  unfold downEffects
  dsimp only
  rw [(postFlush_reads p (p < 32) _).2, pend_noticeSet, State.setPort_noticeSet, State.setPort_noticeSet, flushAll]

end Down

/-- Settles O39: the four flushes, the quieted port, and LINK_DOWN. -/
theorem downEffectsEmptyThePort : Obligations.DownEffectsEmptyThePort := by
  unfold Obligations.DownEffectsEmptyThePort
  intro s p hclass
  have hsame := downEffects_port_same s p
  have hother (q : Nat) (hq : q ≠ p) := downEffects_port_other s (p := p) hq
  have hentered (q : Nat) : enteredAt q (portFrames (s.port p)) = enteredAt q (s.queue p .c2) :=
    enteredAt_portFrames hclass
  have hc2 : ∀ f ∈ s.queue p .c2, f.cls = .c2 := hclass .c2
  have hframe : downEffects p s = { s with
      ports := (downEffects p s).ports, tenants := (downEffects p s).tenants
      freeCount := (downEffects p s).freeCount, notices := (downEffects p s).notices
      interruptsSent := (downEffects p s).interruptsSent
      jobs := if p < 32 then { s.jobs with ports := setInsert s.jobs.ports p } else s.jobs } := by
    have h := downEffects_eq s p
    generalize downEffects p s = t at h ⊢
    unfold OnlyBufferChanged at h
    by_cases hp : p < 32
    · rw [if_pos hp] at h ⊢
      exact h
    · rw [if_neg hp] at h ⊢
      exact h
  have hcount (q : Nat) : ((downEffects p s).port q).losslessCount
      = (s.port q).losslessCount - cellsOf (enteredAt q (s.queue p .c2)) := by
    rw [← hentered]
    by_cases hq : q = p
    · rw [hq, hsame]
    · rw [hother q hq, loweredPort_losslessCount]
  refine ⟨_, rfl, hframe, fun c => ?_, by rw [hsame], by rw [hsame], by rw [hsame], by rw [hsame], by rw [hsame],
    by rw [hsame], by rw [hsame], by rw [hsame], by rw [hsame], by rw [hsame], by rw [hsame], by rw [hsame],
    by rw [hsame], by rw [hsame], fun ⟨c, ht⟩ => ?_, fun ht => ?_, fun q hq => ?_, downEffects_freeCount s p, ?_,
    fun q => ?_, fun x => ?_, fun k hk hk' => ?_⟩
  · unfold State.queue
    rw [hsame]
    cases c <;> rfl
  · rw [hsame, ht]
    rfl
  · rw [hsame]
    show withoutFrame (s.port p).transmitter = _
    rcases htr : (s.port p).transmitter with _ | c | m
    · rfl
    · exact absurd htr (ht c)
    · rfl
  · have hport := hother q hq
    rw [hentered] at hport
    refine ⟨?_, ?_, ?_, ?_, ingressFollows_of_lowered hport ⟨rfl, rfl, rfl⟩ (enteredAt_ne_nil_of_c2 hc2)⟩
    · rw [hport]
      exact samePortState_lowered (samePortState_refl _)
    · rw [hport, loweredPort_storm]
    · rw [hport, loweredPort_transmitter]
    · rw [hport, loweredPort_queues]
  · refine leftUncharged_of_reads (leftUncharged_flushAll s p) (fun x => downEffects_tenant s x p) ?_
    rw [downEffects_noticeSet, if_neg (by decide)]
  · rw [hcount, cellsFrom_eq hc2]
    rfl
  · rw [downEffects_noticeSet, if_pos rfl, mem_setInsert, flushAll_otherNotices s p (by decide), or_comm]
  · rw [downEffects_noticeSet, if_neg hk, flushAll_otherNotices s p hk']

/-! ### Storms and recoveries (R144, R145) -/

section Storm
variable {s : State} {p : Nat}

/-- R144: the flush of the stalled queue. -/
def stormFlushed (s : State) (p : Nat) : State := flushQueue p .c2 (s.setPort p (s.port p).stalled)

theorem stormExpiry_of_due (h : (s.port p).stormDue s.timebase = true) :
    stormExpiry p s = startRecovery p (pend .pauseStorm p (stormFlushed s p)) := if_pos h

theorem stormFlushed_eq (s : State) (p : Nat) : OnlyBufferChanged s (stormFlushed s p) :=
  onlyBuffer_trans (onlyBuffer_setPort s p _) (onlyBuffer_flushQueue _ p .c2)

theorem stalled_queue (d : Cls) (q : Nat) : (s.setPort p (s.port p).stalled).queue q d = s.queue q d := by
  unfold State.queue
  rw [State.port_set]
  split
  · next h => rw [h]; rfl
  · rfl

theorem stormFlushed_port (q : Nat) : (stormFlushed s p).port q
    = loweredPort (s.pauseOf q) (enteredAt q (s.queue p .c2)) (if q = p
      then emptiedPort (s.setPort p (s.port p).stalled) .c2 (s.port p).stalled else s.port q) := by
  unfold stormFlushed
  rw [flushQueue_port, stalled_queue, State.port_set, if_pos rfl, State.port_set]
  by_cases hq : q = p
  · rw [if_pos hq, if_pos hq]
    rfl
  · rw [if_neg hq, if_neg hq, if_neg hq]
    rfl

/-- R144: the recovery and the storm hold are written on the lowered port. -/
theorem loweredPort_recovery (q : PauseSettings) (l : List QFrame) (r : Port) (e : Option Nat) (b : Bool) :
    { loweredPort q l r with recoveryEnd := e, stormHold := b }
      = loweredPort q l { r with recoveryEnd := e, stormHold := b } := by
  unfold loweredPort Port.pauseOffTest
  by_cases hl : l = []
  · rw [if_pos hl, if_pos hl]
  · rw [if_neg hl, if_neg hl]
    by_cases hc : r.ingress = .pausing ∧ r.losslessCount - cellsOf l ≤ q.pauseOff
    · rw [if_pos hc, if_pos hc]
    · rw [if_neg hc, if_neg hc]

/-- R144: the port once its C2 queue has stalled, before its frames are given back. -/
def stormedPort (s : State) (p : Nat) : Port :=
  { emptiedPort (s.setPort p (s.port p).stalled) .c2 (s.port p).stalled with
    recoveryEnd := some (s.timebase + 1000 * s.linkSettings.recoveryMs)
    stormHold := decide (32 ≤ p) || (s.port p).stormHold }

/-- A stalled queue has no storm timer. -/
theorem stormedPort_eq (s : State) (p : Nat) : stormedPort s p = { s.port p with
    c2State := .stalled, pauseEnd := none, storm := none, queues := (s.port p).queues.set .c2 []
    transmitter := if (s.port p).transmitter = .frame .c2 then .idle else (s.port p).transmitter
    recoveryEnd := some (s.timebase + 1000 * s.linkSettings.recoveryMs)
    stormHold := decide (32 ≤ p) || (s.port p).stormHold } := by
  have hstorm : (emptiedPort (s.setPort p (s.port p).stalled) .c2 (s.port p).stalled).storm = none := by
    unfold emptiedPort State.stormSync Port.stormSync
    rw [if_neg fun h => nomatch h.1]
  unfold stormedPort
  rw [emptiedPort_eq, hstorm]
  rfl

theorem startRecovery_port (v : State) (q : Nat) : (startRecovery p v).port q = if q = p
    then { v.port p with
      recoveryEnd := some (v.timebase + 1000 * v.linkSettings.recoveryMs)
      stormHold := decide (32 ≤ p) || (v.port p).stormHold }
    else v.port q := State.port_set v p q _

theorem stormExpiry_port (h : (s.port p).stormDue s.timebase = true) (q : Nat) : (stormExpiry p s).port q
    = loweredPort (s.pauseOf q) (enteredAt q (s.queue p .c2))
        (if q = p then stormedPort s p else s.port q) := by
  have hport (x : Nat) : (pend .pauseStorm p (stormFlushed s p)).port x = (stormFlushed s p).port x := pend_port _ _ _ x
  have htime : (pend .pauseStorm p (stormFlushed s p)).timebase = s.timebase := by
    rw [pend_eq, stormFlushed_eq]
  have hlink : (pend .pauseStorm p (stormFlushed s p)).linkSettings = s.linkSettings := by
    rw [pend_eq, stormFlushed_eq]
  rw [stormExpiry_of_due h, startRecovery_port, htime, hlink, hport, hport]
  by_cases hq : q = p
  · subst hq
    have hhold : ((stormFlushed s q).port q).stormHold = (s.port q).stormHold := by
      rw [stormFlushed_port, if_pos rfl, loweredPort_stormHold, emptiedPort_eq]
      rfl
    rw [if_pos rfl, if_pos rfl, hhold, stormFlushed_port, if_pos rfl, loweredPort_recovery]
    rfl
  · rw [if_neg hq, if_neg hq, stormFlushed_port, if_neg hq]

theorem startRecovery_reads (v : State) : (startRecovery p v).freeCount = v.freeCount
    ∧ (∀ u, (startRecovery p v).tenant u = v.tenant u) ∧ ∀ k, (startRecovery p v).noticeSet k = v.noticeSet k :=
  ⟨rfl, fun _ => rfl, fun _ => rfl⟩

theorem stormExpiry_noticeSet (h : (s.port p).stormDue s.timebase = true) (k : NoticeKind) :
    (stormExpiry p s).noticeSet k = if k = .pauseStorm then setInsert ((stormFlushed s p).noticeSet .pauseStorm) p
      else (stormFlushed s p).noticeSet k := by
  rw [stormExpiry_of_due h, (startRecovery_reads _).2.2, pend_noticeSet]

theorem leftUncharged_stormExpiry (h : (s.port p).stormDue s.timebase = true) :
    LeftUncharged s (stormExpiry p s) fun u => framesOf u (s.queue p .c2) := by
  have hflush : LeftUncharged s (stormFlushed s p) fun u => framesOf u (s.queue p .c2) := by
    have := leftUncharged_flushQueue (s.setPort p (s.port p).stalled) p .c2
    rw [stalled_queue] at this
    exact this
  refine leftUncharged_of_reads hflush (fun u => ?_) ?_
  · rw [stormExpiry_of_due h, (startRecovery_reads _).2.1, pend_tenant]
  · rw [stormExpiry_noticeSet h, if_neg (by decide)]

theorem stormExpiry_freeCount (h : (s.port p).stormDue s.timebase = true) :
    (stormExpiry p s).freeCount = s.freeCount + cellsOf (s.queue p .c2) := by
  rw [stormExpiry_of_due h, (startRecovery_reads _).1, pend_eq]
  refine (flushQueue_cells _ p .c2).trans ?_
  rw [stalled_queue]
  rfl

end Storm

/-- Settles O43: the stalled and emptied queue, its frames given back, and the end of a recovery. -/
theorem aStormStallsAndARecoveryEnds : Obligations.AStormStallsAndARecoveryEnds := by
  unfold Obligations.AStormStallsAndARecoveryEnds
  refine ⟨fun s p x hp hx hdue hc2 => ?_, fun s p x hp hx hdue => ?_⟩
  · have hd : (s.port p).stormDue s.timebase = true := by
      unfold Port.stormDue
      rw [hx]
      exact decide_eq_true hdue
    have hexec : exec (.stormExpiry p) s = .next (stormExpiry p s) := by
      show atPort p (stormExpiry p) s = _
      rw [atPort_of_lt _ _ hp]
    have hport (q : Nat) := stormExpiry_port hd q
    have hstormed := stormedPort_eq s p
    have hqueues (q : Nat) : ((stormExpiry p s).port q).queues
        = if q = p then (s.port p).queues.set .c2 [] else (s.port q).queues := by
      rw [hport, loweredPort_queues]
      split
      · rw [hstormed]
      · rfl
    have hnotice := stormExpiry_noticeSet hd
    have hflushed (k : NoticeKind) (hk : k ≠ .purgeDone) : (stormFlushed s p).noticeSet k = s.noticeSet k :=
      flushQueue_otherNotices _ _ _ hk
    have hsame : (stormExpiry p s).port p
        = loweredPort (s.pauseOf p) (enteredAt p (s.queue p .c2)) (stormedPort s p) := by
      rw [hport, if_pos rfl]
    refine ⟨_, hexec, onlyBuffer_stormExpiry s p, ?_, fun q d h => ?_, ?_, ?_, ?_, ?_, fun h => ?_, fun h => ?_, ?_,
      ?_, ?_, ?_, ?_, ?_, fun ht => ?_, fun ht => ?_, fun q hq => ?_, fun q => ?_, stormExpiry_freeCount hd,
      leftUncharged_stormExpiry hd, fun q => ?_, fun y => ?_, fun k hk hk' => ?_⟩
    · unfold State.queue
      rw [hqueues, if_pos rfl, PerClass.get_set, if_pos rfl]
    · unfold State.queue
      rw [hqueues]
      split
      · next hq =>
        subst hq
        rw [PerClass.get_set, if_neg (h.resolve_left fun h => h rfl)]
      · rfl
    · rw [hsame, loweredPort_c2State, hstormed]
    · rw [hsame, loweredPort_pauseEnd, hstormed]
    · rw [hsame, loweredPort_storm, hstormed]
    · rw [hsame, loweredPort_recoveryEnd, hstormed]
    · rw [hsame, loweredPort_stormHold, hstormed, decide_eq_true h]
      rfl
    · rw [hsame, loweredPort_stormHold, hstormed, decide_eq_false (Nat.not_le.mpr h)]
      rfl
    · rw [hsame, loweredPort_link, hstormed]
    · rw [hsame, loweredPort_lane, hstormed]
    · rw [hsame, loweredPort_debounceEnd, hstormed]
    · rw [hsame, loweredPort_holdDownEnd, hstormed]
    · rw [hsame, loweredPort_flapHistory, hstormed]
    · rw [hsame, loweredPort_rotation, hstormed]
    · rw [hsame, loweredPort_transmitter, hstormed]
      exact if_pos ht
    · rw [hsame, loweredPort_transmitter, hstormed]
      exact if_neg ht
    · rw [hport, if_neg hq, loweredPort_storm, loweredPort_transmitter]
      exact ⟨samePortState_lowered (samePortState_refl _), rfl, rfl⟩
    · refine ingressFollows_of_lowered (hport q) ?_ (enteredAt_ne_nil_of_c2 hc2)
      split
      · next hq =>
        rw [hstormed, hq]
        exact ⟨rfl, rfl, rfl⟩
      · exact ⟨rfl, rfl, rfl⟩
    · rw [hport, loweredPort_losslessCount, cellsFrom_eq hc2]
      split
      · next hq => rw [hstormed, hq]
      · rfl
    · rw [hnotice, if_pos rfl, mem_setInsert, hflushed _ (by decide), or_comm]
    · rw [hnotice, if_neg hk, hflushed k hk']
  · have hreached : reached s.timebase (s.port p).recoveryEnd = true := by
      rw [hx]
      exact decide_eq_true hdue
    show atPort p (recoveryExpiry p) s = _
    rw [atPort_of_lt _ _ hp, recoveryExpiry, if_pos hreached]
    rfl

end Sys2Proof.Proofs.Departures

/-! The table sweeper (10_table_sweeper.md): the passes, their visits, and their reports. -/

namespace Sys2Proof.Proofs.Sweeper

open Sys2Proof Sys2Proof.Machine Sys2Proof.Safety Sys2Proof.Proofs.Outcomes Sys2Proof.Proofs.PortLaws
  Sys2Proof.Proofs.TenantLaws Sys2Proof.Proofs.TenantRequests Sys2Proof.Proofs.HostSide

/-! ### The pass end (R172) -/

/-- R18, R172: a tenant that a pass end frees. -/
def freedAtEnd (s : State) (u : Nat) : Prop :=
  (s.tenant u).state = .draining ∧ (s.tenant u).inBuffer = 0 ∧ s.purgeOutstanding u = false

section Vacate
variable (s : State) (x u : Nat)

theorem becomeVacantIfDone_purges : (becomeVacantIfDone x s).purgeOutstanding u = s.purgeOutstanding u := by
  rw [becomeVacantIfDone_eq]
  rfl

theorem mem_purgeDone_becomeVacantIfDone : u ∈ (becomeVacantIfDone x s).noticeSet .purgeDone
    ↔ u ∈ s.noticeSet .purgeDone ∨ u = x ∧ freedAtEnd s x := by
  rcases becomeVacantIfDone_cases x s with ⟨hd, hn, hp, heq⟩ | ⟨hnot, heq⟩
  · rw [heq, pend_noticeSet, if_pos rfl, mem_setInsert, State.setTenant_noticeSet, or_comm]
    exact or_congr_right (and_iff_left ⟨hd, hn, hp⟩).symm
  · rw [heq]
    exact (or_iff_left fun h => hnot h.2).symm

theorem freedAtEnd_becomeVacantIfDone : freedAtEnd (becomeVacantIfDone x s) u
    ↔ freedAtEnd s u ∧ u ≠ x := by
  unfold freedAtEnd
  rw [becomeVacantIfDone_purges, becomeVacantIfDone_tenant]
  by_cases hu : u = x
  · subst hu
    by_cases hf : (s.tenant u).state = .draining ∧ (s.tenant u).inBuffer = 0 ∧ s.purgeOutstanding u = false
    · rw [if_pos ⟨rfl, hf⟩]
      exact iff_of_false (fun h => nomatch h.1) fun h => h.2 rfl
    · rw [if_neg fun h => hf h.2]
      exact iff_of_false hf fun h => h.2 rfl
  · rw [if_neg fun h => hu h.1]
    exact (and_iff_left hu).symm

/-- R172: the carried tenants that are freed, one after another. -/
theorem vacateAll_reads (l : NatSet) :
    (u ∈ (l.foldl (fun s t => becomeVacantIfDone t s) s).noticeSet .purgeDone
        ↔ u ∈ s.noticeSet .purgeDone ∨ u ∈ l ∧ freedAtEnd s u)
      ∧ (u ∈ l ∧ freedAtEnd s u → (l.foldl (fun s t => becomeVacantIfDone t s) s).tenant u = vacantTenant)
      ∧ (¬(u ∈ l ∧ freedAtEnd s u) → (l.foldl (fun s t => becomeVacantIfDone t s) s).tenant u = s.tenant u) := by
  induction l generalizing s with
  | nil => exact ⟨by simp, fun h => absurd h.1 List.not_mem_nil, fun _ => rfl⟩
  | cons x rest ih =>
    obtain ⟨hset, hfreed, hkept⟩ := ih (becomeVacantIfDone x s)
    have htenant := becomeVacantIfDone_tenant x u s
    rw [List.foldl_cons, List.mem_cons]
    rw [mem_purgeDone_becomeVacantIfDone, freedAtEnd_becomeVacantIfDone] at hset
    rw [freedAtEnd_becomeVacantIfDone] at hfreed hkept
    by_cases hu : u = x
    · subst hu
      have hnot : ¬(u ∈ rest ∧ freedAtEnd s u ∧ u ≠ u) := fun h => h.2.2 rfl
      refine ⟨?_, fun h => ?_, fun h => ?_⟩
      · rw [hset, or_iff_left hnot]
        simp
      · rw [hkept hnot, htenant, if_pos ⟨rfl, h.2⟩]
      · rw [hkept hnot, htenant, if_neg fun hf => h ⟨.inl rfl, hf.2⟩]
    · have hsame : (becomeVacantIfDone x s).tenant u = s.tenant u := htenant.trans (if_neg fun h => hu h.1)
      simp only [hu, false_or, ne_eq, not_false_eq_true, and_true, false_and, or_false] at hset hfreed hkept ⊢
      exact ⟨hset, hfreed, fun h => (hkept h).trans hsame⟩

theorem vacateAll_otherNotices (l : NatSet) {k : NoticeKind} (h : k ≠ .purgeDone) :
    (l.foldl (fun s t => becomeVacantIfDone t s) s).noticeSet k = s.noticeSet k := by
  induction l generalizing s with
  | nil => rfl
  | cons x rest ih => rw [List.foldl_cons, ih, becomeVacantIfDone_noticeSet _ _ _ h]

end Vacate

theorem pendAll_otherNotices (k : NoticeKind) (l : NatSet) (s : State) {j : NoticeKind} (h : j ≠ k) :
    (pendAll k l s).noticeSet j = s.noticeSet j := by
  unfold pendAll
  induction l generalizing s with
  | nil => rfl
  | cons x rest ih => rw [List.foldl_cons, ih, pend_noticeSet, if_neg h]

/-- Settles O50: the two reports, and the carried tenants freed. -/
theorem aPassEndReportsTheCarriedJobs : Obligations.APassEndReportsTheCarriedJobs := by
  unfold Obligations.APassEndReportsTheCarriedJobs
  intro s j hpass
  have hexec : exec .passEnd s = .next (endPass j s) := by
    show execPassEnd s = _
    rw [execPassEnd, hpass]
    rfl
  obtain ⟨v, hv⟩ : ∃ v, v = pendAll .rebalanceDone j.sets (pendAll .flushDone j.ports { s with pass := none }) :=
    ⟨_, rfl⟩
  have hend : endPass j s = j.tenants.foldl (fun s t => becomeVacantIfDone t s) v := by rw [hv]; rfl
  have htenant (x : Nat) : v.tenant x = s.tenant x := by
    rw [hv, pendAll_eq, pendAll_eq .flushDone]
    rfl
  have hpurge (x : Nat) : v.purgeOutstanding x = false ↔ x ∉ s.jobs.tenants := by
    have hcong : v.purgeOutstanding x = State.purgeOutstanding { s with pass := none } x := by
      rw [hv, pendAll_eq, pendAll_eq .flushDone]
      rfl
    have hjobs : State.purgeOutstanding { s with pass := none } x = (setHas s.jobs.tenants x || false) := rfl
    rw [hcong, hjobs, Bool.or_false, ← setHas_iff, Bool.not_eq_true]
  have hfreed (x : Nat) : freedAtEnd v x
      ↔ (s.tenant x).state = .draining ∧ (s.tenant x).inBuffer = 0 ∧ x ∉ s.jobs.tenants := by
    rw [freedAtEnd, htenant, hpurge]
  have hreads (x : Nat) := vacateAll_reads v x j.tenants
  have hnotice {k : NoticeKind} (hk : k ≠ .purgeDone) := vacateAll_otherNotices v j.tenants hk
  have hzero (k : NoticeKind) : State.noticeSet { s with pass := none } k = s.noticeSet k := rfl
  refine ⟨_, hexec, endPass_eq j, fun x => ?_, fun x => ?_, fun x => ?_, fun k h1 h2 h3 => ?_,
    fun x hx hd hn hj => ?_, fun x h => ?_⟩
  · rw [hend, hnotice (by decide), hv, pendAll_otherNotices _ _ _ (by decide), pendAll_noticeSet, hzero]
    exact or_congr_right (and_iff_right rfl)
  · rw [hend, hnotice (by decide), hv, pendAll_noticeSet, pendAll_otherNotices _ _ _ (by decide), hzero]
    exact or_congr_right (and_iff_right rfl)
  · rw [hend, (hreads x).1, hfreed, hv, pendAll_otherNotices _ _ _ (by decide),
      pendAll_otherNotices _ _ _ (by decide), hzero]
  · rw [hend, hnotice h3, hv, pendAll_otherNotices _ _ _ h2, pendAll_otherNotices _ _ _ h1, hzero]
  · rw [hend]
    exact (hreads x).2.1 ⟨hx, (hfreed x).mpr ⟨hd, hn, hj⟩⟩
  · rw [hend, (hreads x).2.2, htenant]
    rintro ⟨hx, hf⟩
    obtain ⟨hd, hn, hj⟩ := (hfreed x).mp hf
    rcases h with h | h | h | h
    · exact h hx
    · exact h hd
    · exact h hn
    · exact hj h

/-! ### Sets as bits, and the visits (R168 to R171, R190) -/

theorem setHas_eq_decide (l : NatSet) (x : Nat) : setHas l x = decide (x ∈ l) := by
  rw [Bool.eq_iff_iff, setHas_iff, decide_eq_true_iff]

theorem setBits_eq (width : Nat) (l : NatSet) :
    setBits width l = (((List.range width).filter (setHas l)).map fun n => 2 ^ n).sum := by
  unfold setBits
  rw [← List.foldl_filter, foldl_add_eq, Nat.zero_add]

theorem testBit_setBits (width n : Nat) (l : NatSet) :
    (setBits width l).testBit n = true ↔ n < width ∧ n ∈ l := by
  rw [setBits_eq, testBit_sum_two_pow (List.pairwise_lt_range.sublist List.filter_sublist), List.mem_filter,
    List.mem_range, setHas_iff]

section Visits
variable {s : State} {j : Jobs} {i : Nat}

theorem passDue_iff : s.passDue = true ↔ s.pass = none
    ∧ (s.jobs.aging = true ∨ s.jobs.ports ≠ [] ∨ s.jobs.tenants ≠ [] ∨ s.jobs.sets ≠ []) := by
  unfold State.passDue Jobs.any
  simp only [Bool.and_eq_true, Option.isNone_iff_eq_none, Bool.or_eq_true, Bool.not_eq_true',
    List.isEmpty_eq_false_iff, or_assoc]

/-- R170: what removes an entry at a visit. -/
theorem entrySwept_iff {e : Entry} : s.entrySwept j e = true ↔ e.tenant ∈ j.tenants
    ∨ e.kind = .learned ∧ j.aging = true ∧ s.agingInterval ≤ s.timebase / 1000000 - e.lastSeen
    ∨ e.kind = .learned ∧ ∃ p : Fin 32, e.target = .downlink p ∧ p.val ∈ j.ports := by
  have hstale : s.stale e = true ↔ s.agingInterval ≤ s.timebase / 1000000 - e.lastSeen := decide_eq_true_iff
  unfold State.entrySwept
  rw [Bool.or_eq_true, setHas_iff]
  refine or_congr_right ?_
  rcases hk : e.kind with _ | _
  · dsimp only
    rw [Bool.or_eq_true, Bool.and_eq_true, hstale]
    rcases ht : e.target with p | n
    · simp
    · simp
  · simp

theorem exec_stationVisit (hp : s.pass = some { carried := j, phase := .stations, position := i })
    (hi : i ≤ 16383) : exec .stationVisit s = .next { visitStation j i s with
      pass := some (if i = 16383 then { carried := j, phase := .pins, position := 0 }
        else { carried := j, phase := .stations, position := i + 1 }) } := by
  show execStationVisit s = _
  rw [execStationVisit, hp]
  dsimp only
  unfold Pass.afterStation
  dsimp only
  by_cases h : i = 16383
  · rw [if_neg (by omega), if_pos h]
  · rw [if_pos (by omega), if_neg h]

theorem pinSwept_iff {r : Pin} : s.pinSwept j r = true ↔ r.valid = true
    ∧ (j.aging = true ∧ 1000000 * s.pinExpiry ≤ s.timebase - r.lastUse
      ∨ r.origin.val ∈ j.sets ∨ r.current.set.val ∈ j.sets) := by
  unfold State.pinSwept
  rw [Bool.and_eq_true, Bool.or_eq_true, Bool.or_eq_true, Bool.and_eq_true, decide_eq_true_iff, setHas_iff,
    setHas_iff, or_assoc]

theorem exec_pinVisit (hp : s.pass = some { carried := j, phase := .pins, position := i }) (hi : i ≤ 8191) :
    exec .pinVisit s = .next { visitPin j i s with
      pass := some { carried := j, phase := .pins, position := i + 1 } } := by
  show execPinVisit s = _
  rw [execPinVisit, hp]
  exact congrArg Host.Outcome.next (if_pos (Nat.lt_succ_of_le hi))

/-- R174: while slots are left to visit, the position is the pass's own. -/
theorem passWords_of_running {d t : Nat} {q : Pass} (h : q.phase = .stations ∨ q.position < 8192) :
    passWords d t (some q) = [1#32, outFlag q.carried.aging, out (setBits 32 q.carried.ports),
      out (setBits 64 q.carried.sets), out (setBits 64 q.carried.sets / 4294967296),
      out q.carried.tenants.length, outFlag (decide (t ∈ q.carried.tenants)), out q.phase.number,
      out q.position] := by
  have hfinished : q.finished = false := by
    unfold Pass.finished
    rw [Bool.and_eq_false_iff, decide_eq_false_iff_not]
    rcases h with h | h
    · rw [h]
      exact .inl rfl
    · exact .inr (Nat.not_le.mpr h)
  have hposition : passPosition d q = q.position := by
    unfold passPosition
    rw [hfinished]
    rfl
  unfold passWords
  dsimp only
  rw [hposition, setHas_eq_decide]
  rfl

end Visits

/-- Settles O49: the start of a pass, the two visits, and the reading. -/
theorem aPassCarriesItsJobsToEverySlot : Obligations.APassCarriesItsJobsToEverySlot := by
  unfold Obligations.APassCarriesItsJobsToEverySlot
  refine ⟨fun width n l => testBit_setBits width n l, fun s hpass hjobs => ?_,
    fun s j i next hp hi hnext => ⟨fun he => ?_, fun e he swept hswept => ⟨fun h => ?_, fun h => ?_⟩⟩,
    fun s j i swept hp hi hswept => ⟨fun h => ?_, fun h => ?_⟩,
    fun s m keep hrun => ⟨fun h => ?_, fun carried h hnone hsome hrunning => ?_⟩⟩
  · exact congrArg Host.Outcome.next (if_pos (passDue_iff.mpr ⟨hpass, hjobs⟩))
  · rw [exec_stationVisit hp hi, ← hnext, visitStation, he]
  · rw [exec_stationVisit hp hi, ← hnext, visitStation, he]
    dsimp only
    rw [if_pos (entrySwept_iff.mpr (hswept.mp h))]
    rfl
  · rw [exec_stationVisit hp hi, ← hnext, visitStation, he]
    dsimp only
    rw [if_neg fun hs => h (hswept.mpr (entrySwept_iff.mp hs))]
  · rw [exec_pinVisit hp hi, visitPin, if_pos (pinSwept_iff.mpr (hswept.mp h))]
  · rw [exec_pinVisit hp hi, visitPin, if_neg fun hs => h (hswept.mpr (pinSwept_iff.mp hs))]
  · exact answer_of_refusal (effect := sweepReadEffect) hrun (if_pos h)
  · have hcarried : carried = passWords s.draws (num m 1) s.pass := by
      rcases hp : s.pass with _ | q
      · exact hnone hp
      · rw [passWords_of_running (hrunning q hp)]
        exact hsome q hp (hrunning q hp)
    rw [hcarried, ← setHas_eq_decide]
    exact answer_of_effect (effect := sweepReadEffect) hrun (if_neg (Nat.not_le.mpr h))

end Sys2Proof.Proofs.Sweeper

/-! The link monitor (09_link_monitor_and_fault_recovery.md): link events, histories, and the requests. -/

namespace Sys2Proof.Proofs.LinkMonitor

open Sys2Proof Sys2Proof.Machine Sys2Proof.Safety Sys2Proof.Proofs.Outcomes Sys2Proof.Proofs.Ports
  Sys2Proof.Proofs.PortLaws Sys2Proof.Proofs.TenantRequests Sys2Proof.Proofs.StationRequests
  Sys2Proof.Proofs.Departures

/-! ### Histories and the hold-down (R158, R159) -/

section History
variable {history : List Nat} {now windowS : Nat}

/-- R158: what an append keeps of the history, with the entry it adds. -/
def appended (history : List Nat) (now windowS : Nat) : List Nat :=
  history.filter (fun x => now - x ≤ 1000000 * windowS) ++ [now]

theorem flapAppend_eq : flapAppend history now windowS
    = (appended history now windowS).drop ((appended history now windowS).length - 8) := rfl

theorem flapAppend_getLast? : (flapAppend history now windowS).getLast? = some now := by
  have hpos : 0 < (appended history now windowS).length := by
    rw [appended, List.length_append]
    exact Nat.succ_pos _
  rw [flapAppend_eq, List.getLast?_drop, if_neg (by omega), appended,
    List.getLast?_append_of_ne_nil _ (List.cons_ne_nil _ _)]
  rfl

theorem age_of_mem_flapAppend {x : Nat} (h : x ∈ flapAppend history now windowS) :
    now - x ≤ 1000000 * windowS := by
  rcases List.mem_append.mp (List.mem_of_mem_drop h) with h | h
  · exact of_decide_eq_true (List.mem_filter.mp h).2
  · rw [List.mem_singleton.mp h, Nat.sub_self]
    exact Nat.zero_le _

end History

theorem holdDown_eq {r : Port} {g : LinkSettings} {now penalty recovery : Nat}
    (hp : g.threshold ≤ (r.flapHistory.filter fun x => now - x ≤ 1000000 * g.windowS).length →
      penalty = 1000000 * g.penaltyS)
    (hp0 : (r.flapHistory.filter fun x => now - x ≤ 1000000 * g.windowS).length < g.threshold → penalty = 0)
    (hr : ∀ x, r.recoveryEnd = some x → recovery = x - now) (hr0 : r.recoveryEnd = none → recovery = 0) :
    holdDown r g now = max (1000 * g.baseMs) (max penalty recovery) := by
  have hpenalty : penalty = if g.threshold ≤ flapsInWindow r.flapHistory now g.windowS
      then 1000000 * g.penaltyS else 0 := by
    split
    · next h => exact hp h
    · next h => exact hp0 (Nat.not_le.mp h)
  have hrecovery : recovery = remaining now r.recoveryEnd := by
    rcases he : r.recoveryEnd with _ | x
    · exact hr0 he
    · exact hr x he
  rw [hpenalty, hrecovery]
  rfl

/-- Settles O46: the append by its two steps, and the hold-down as a maximum. -/
theorem flapHistoryAndHoldDown : Obligations.FlapHistoryAndHoldDown := by
  unfold Obligations.FlapHistoryAndHoldDown
  refine ⟨fun history now windowS _ => ⟨flapAppend_length history now windowS, flapAppend_getLast?,
    fun x hx => age_of_mem_flapAppend hx, _,
    (appended history now windowS).take ((appended history now windowS).length - 8), rfl,
    (List.take_append_drop _ (appended history now windowS)).symm, fun h => ?_, fun h => ?_⟩,
    fun r g now penalty recovery hp hp0 hr hr0 => ?_⟩
  · rw [appended, List.length_append, List.length_singleton, Nat.sub_eq_zero_of_le (by omega), List.take_zero]
  · rw [List.length_take, appended, List.length_append, List.length_singleton, h]
    rfl
  · rw [holdDown_eq hp hp0 hr hr0]
    refine ⟨Nat.le_max_left _ _, ?_, ?_, ?_⟩
    · omega
    · omega
    · simp only [List.mem_cons, List.not_mem_nil, or_false]
      omega

/-! ### Link events (R151 to R154) -/

section Events
variable {s : State} {p : Nat}

theorem exec_laneLoss (hp : p < 40) (h : (s.port p).lane = .locked) :
    exec (.laneLoss p) s = .next (laneLossEffect p (s.setPort p { s.port p with lane := .lost })) := by
  show atPort p (laneLoss p) s = _
  rw [atPort_of_lt _ _ hp, laneLoss, if_pos h]

theorem exec_laneLock (hp : p < 40) (h : (s.port p).lane = .lost) :
    exec (.laneLock p) s = .next (laneLockEffect p (s.setPort p { s.port p with lane := .locked })) := by
  show atPort p (laneLock p) s = _
  rw [atPort_of_lt _ _ hp, laneLock, if_pos h]

theorem port_setPort_same (r : Port) : (s.setPort p r).port p = r := by rw [State.port_set, if_pos rfl]

theorem port_setPort_other {q : Nat} (r : Port) (h : q ≠ p) : (s.setPort p r).port q = s.port q := by
  rw [State.port_set, if_neg h]

theorem reached_of_some {now x : Nat} {e : Option Nat} (he : e = some x) (h : x ≤ now) :
    reached now e = true := by
  rw [he]
  exact decide_eq_true h

theorem laneLossEffect_up (h : (s.port p).link = .up) : laneLossEffect p s = leaveUp p .suspect
    (s.setPort p { s.port p with debounceEnd := some (s.timebase + 1000 * s.linkSettings.debounceMs) }) := by
  unfold laneLossEffect
  rw [h]

theorem laneLossEffect_proving (h : (s.port p).link = .proving) : laneLossEffect p s = enterDown p s := by
  unfold laneLossEffect
  rw [h]

theorem laneLossEffect_other (h : (s.port p).link = .adminDown ∨ (s.port p).link = .down
    ∨ (s.port p).link = .suspect) : laneLossEffect p s = s := by
  unfold laneLossEffect
  rcases h with h | h | h <;> rw [h]

theorem laneLockEffect_suspect (h : (s.port p).link = .suspect) : laneLockEffect p s = enterUp p s := by
  unfold laneLockEffect
  rw [h]

theorem laneLockEffect_down (h : (s.port p).link = .down) : laneLockEffect p s = enterProving p s := by
  unfold laneLockEffect
  rw [h]

theorem laneLockEffect_other (h : (s.port p).link = .adminDown ∨ (s.port p).link = .up
    ∨ (s.port p).link = .proving) : laneLockEffect p s = s := by
  unfold laneLockEffect
  rcases h with h | h | h <;> rw [h]

theorem enterUp_port (s : State) (p : Nat) : (enterUp p s).port p = Port.pauseOnTest
    { s.port p with link := .up, debounceEnd := none, holdDownEnd := none } (s.pauseOf p) s.timebase :=
  port_setPort_same _

theorem enterProving_port (s : State) (p : Nat) : (enterProving p s).port p =
    { s.port p with
      link := .proving
      holdDownEnd := some (s.timebase + holdDown (s.port p) s.linkSettings s.timebase) } :=
  port_setPort_same _

/-- A lane lock acts on its port alone. -/
theorem laneLockEffect_cases (s : State) (p : Nat) :
    laneLockEffect p s = s ∨ ∃ r, laneLockEffect p s = s.setPort p r := by
  unfold laneLockEffect
  cases (s.port p).link
  case suspect => exact .inr ⟨_, rfl⟩
  case down => exact .inr ⟨_, rfl⟩
  case adminDown => exact .inl rfl
  case up => exact .inl rfl
  case proving => exact .inl rfl

theorem laneLockEffect_only (s : State) (p : Nat) :
    laneLockEffect p s = { s with ports := (laneLockEffect p s).ports } := by
  rcases laneLockEffect_cases s p with h | ⟨r, h⟩
  · rw [h]
  · rw [h]
    rfl

theorem laneLockEffect_port_other {q : Nat} (hq : q ≠ p) : (laneLockEffect p s).port q = s.port q := by
  rcases laneLockEffect_cases s p with h | ⟨r, h⟩
  · rw [h]
  · rw [h, port_setPort_other _ hq]

end Events

/-- Settles O45: each event by the link state it finds. -/
theorem linkEventsActByTheLinkState : Obligations.LinkEventsActByTheLinkState := by
  unfold Obligations.LinkEventsActByTheLinkState
  refine ⟨fun s p r hp hr hlane => ?_, fun s p r hp hr hlane => ?_, fun s p x r hp hr hx => ⟨fun hl he => ?_,
    fun hl he => ?_⟩⟩
  · subst hr
    have hexec := exec_laneLoss hp hlane
    have hport : (s.setPort p { s.port p with lane := .lost }).port p = { s.port p with lane := .lost } :=
      port_setPort_same _
    by_cases hquiet : (s.port p).link = .adminDown ∨ (s.port p).link = .down ∨ (s.port p).link = .suspect
    · refine ⟨fun r' => s.setPort p r',
        fun r' => ⟨rfl, port_setPort_same r', fun q hq => port_setPort_other r' hq⟩,
        fun h => ?_, fun h => ?_, fun _ => ?_⟩
      · rw [h] at hquiet
        simp at hquiet
      · rw [h] at hquiet
        simp at hquiet
      · rw [hexec, laneLossEffect_other (by rw [hport]; exact hquiet)]
    · refine ⟨fun r' => (s.setPort p { s.port p with lane := .lost }).setPort p r', fun r' => ⟨rfl,
          port_setPort_same r', fun q hq => (port_setPort_other r' hq).trans (port_setPort_other _ hq)⟩,
        fun h => ?_, fun h => ?_, fun h => absurd h hquiet⟩
      · rw [hexec, laneLossEffect_up (by rw [hport]; exact h), hport]
        rfl
      · rw [hexec, laneLossEffect_proving (by rw [hport]; exact h), enterDown, hport]
        rfl
  · subst hr
    have hexec := exec_laneLock hp hlane
    have hport : (s.setPort p { s.port p with lane := .locked }).port p = { s.port p with lane := .locked } :=
      port_setPort_same _
    refine ⟨_, hexec, (laneLockEffect_only _ p).trans rfl,
      fun q hq => (laneLockEffect_port_other hq).trans (port_setPort_other _ hq),
      fun h => ?_, fun h => ?_, fun h => ?_⟩
    · rw [laneLockEffect_suspect (by rw [hport]; exact h), enterUp_port, hport]
      rfl
    · rw [laneLockEffect_down (by rw [hport]; exact h), enterProving_port, hport]
      rfl
    · rw [laneLockEffect_other (by rw [hport]; exact h), hport]
  · subst hr
    have hdue : (s.port p).debounceDue s.timebase = true := by
      unfold Port.debounceDue
      rw [hl, reached_of_some he hx]
      rfl
    show atPort p (debounceExpiry p) s = _
    rw [atPort_of_lt _ _ hp, debounceExpiry, if_pos hdue]
    rfl
  · subst hr
    have hdue : (s.port p).holdDownDue s.timebase = true := by
      unfold Port.holdDownDue
      rw [hl, reached_of_some he hx]
      rfl
    show atPort p (holdDownExpiry p) s = _
    rw [atPort_of_lt _ _ hp, holdDownExpiry, if_pos hdue]
    rfl

/-! ### LINK_ADMIN (R161, R162) -/

section Admin
variable {s t : State} {m : Message} {keep : Bool} {st : Status} {body : List Word} {p : Nat}

theorem answer_linkAdminDown (h : Running s 24 m keep) (hd : num m 2 ≠ 1)
    (he : linkAdminDownEffect m s = ⟨st, body, t⟩) :
    exec .linkAdminDown s = .next (answered m keep st body t) := by
  obtain ⟨hexec, hkind⟩ := h
  have hmine : (ofKind 24 m && num m 2 != 1) = true := by simp [ofKind, hkind, hd]
  refine (effectEvent_of_mine (mine := fun m => ofKind 24 m && num m 2 != 1) linkAdminDownEffect hexec hmine).trans ?_
  rw [he]
  rfl

theorem answer_linkAdminUp (h : Running s 24 m keep) (hd : num m 2 = 1)
    (he : linkAdminUpEffect m s = ⟨st, body, t⟩) :
    exec .linkAdminUp s = .next (answered m keep st body t) := by
  obtain ⟨hexec, hkind⟩ := h
  have hmine : (ofKind 24 m && num m 2 == 1) = true := by simp [ofKind, hkind, hd]
  refine (effectEvent_of_mine (mine := fun m => ofKind 24 m && num m 2 == 1) linkAdminUpEffect hexec hmine).trans ?_
  rw [he]
  rfl

theorem requestRow_linkAdmin (h : kindOf m = 24) :
    requestRow m = if num m 2 = 1 then .linkAdminUp else .linkAdminDown := by
  unfold requestRow
  rw [h]
  rfl

/-- R161: an accepted request answers the states before and after. -/
theorem linkAdminDownEffect_of (hp : num m 1 = p) (hlt : p < 40) (hd : num m 2 = 0) {after : State}
    (h : adminDown p s = after) {a b : Nat} (ha : (s.port p).link.number = a)
    (hb : (after.port p).link.number = b) :
    linkAdminDownEffect m s = ⟨.done, [out a, out b], after⟩ := by
  subst ha hb h hp
  unfold linkAdminDownEffect
  rw [if_neg (by omega)]
  rfl

theorem linkAdminUpEffect_of (hp : num m 1 = p) (hlt : p < 40) {after : State}
    (h : adminUp p s = after) {a b : Nat} (ha : (s.port p).link.number = a)
    (hb : (after.port p).link.number = b) :
    linkAdminUpEffect m s = ⟨.done, [out a, out b], after⟩ := by
  subst ha hb h hp
  unfold linkAdminUpEffect
  rw [if_neg (by omega)]
  rfl

/-- The down effects leave the link state. -/
theorem downEffects_link (s : State) (p : Nat) : ((downEffects p s).port p).link = (s.port p).link := by
  rw [downEffects_port_same]

theorem leaveUp_link (s : State) (p : Nat) (l : LinkState) : ((leaveUp p l s).port p).link = l := by
  rw [leaveUp_port_same, leftUpPort_eq]

theorem adminDown_held (h : (s.port p).link = .suspect ∨ (s.port p).link = .proving) :
    adminDown p s = adminDownHeld p s := by
  unfold adminDown
  rcases h with h | h <;> rw [h]

theorem adminUp_locked (h : (s.port p).link = .adminDown) (hlane : (s.port p).lane = .locked) :
    adminUp p s = enterProving p s := by
  unfold adminUp
  simp only [h, hlane]

theorem adminUp_lost (h : (s.port p).link = .adminDown) (hlane : (s.port p).lane = .lost) :
    adminUp p s = s.setPort p { s.port p with link := .down } := by
  unfold adminUp
  simp only [h, hlane]

theorem adminUp_other (h : (s.port p).link ≠ .adminDown) : adminUp p s = s := by
  unfold adminUp
  rcases hl : (s.port p).link with _ | _ | _ | _ | _
  · rfl
  · rfl
  · rfl
  · rfl
  · exact absurd hl h

end Admin

/-- Settles O47: the row of each direction, and the state that each link state leads to. -/
theorem linkAdminMovesThePort : Obligations.LinkAdminMovesThePort := by
  unfold Obligations.LinkAdminMovesThePort
  intro s m keep p r hrun hp hr
  subst hr
  refine ⟨fun h => ?_, fun hlt hd => ?_, fun hlt hd => ?_⟩
  · rw [requestRow_linkAdmin hrun.2]
    split
    · next hup => exact answer_linkAdminUp hrun hup (if_pos (by omega))
    · next hup => exact answer_linkAdminDown hrun hup (if_pos (by omega))
  · have hanswer {after : State} (h : adminDown p s = after) {a b : Nat} (ha : (s.port p).link.number = a)
        (hb : (after.port p).link.number = b) :=
      answer_linkAdminDown hrun (by omega) (linkAdminDownEffect_of hp hlt hd h ha hb)
    refine ⟨fun hl => ?_, fun hl => ?_, fun hl => ?_, fun hl => ?_⟩
    · refine hanswer (a := 0) (b := 4) (by unfold adminDown; rw [hl]) (by rw [hl]; rfl) ?_
      rw [downEffects_link, leaveUp_link]
      rfl
    · refine hanswer (b := 4) (adminDown_held hl) rfl ?_
      rw [adminDownHeld, downEffects_link, port_setPort_same]
      rfl
    · refine hanswer (a := 2) (b := 4) (by unfold adminDown; rw [hl]) (by rw [hl]; rfl) ?_
      rw [port_setPort_same]
      rfl
    · refine hanswer (a := 4) (b := 4) (by unfold adminDown; rw [hl]) (by rw [hl]; rfl) ?_
      rw [hl]
      rfl
  · have hanswer {after : State} (h : adminUp p s = after) {a b : Nat} (ha : (s.port p).link.number = a)
        (hb : (after.port p).link.number = b) :=
      answer_linkAdminUp hrun hd (linkAdminUpEffect_of hp hlt h ha hb)
    refine ⟨fun hl hlane => ?_, fun hl hlane => ?_, fun hl => ?_⟩
    · refine hanswer (a := 4) (b := 3) (adminUp_locked hl hlane) (by rw [hl]; rfl) ?_
      rw [enterProving_port]
      rfl
    · refine hanswer (a := 4) (b := 2) (adminUp_lost hl hlane) (by rw [hl]; rfl) ?_
      rw [port_setPort_same]
      rfl
    · exact hanswer (adminUp_other hl) rfl rfl

/-! ### LINK_TIMING and LINK_READ (R163, R164) -/

theorem eightSlots_out2 (l : List Nat) :
    eightSlots [0#32, 0#32] out2 l = (List.range 8).flatMap fun i => out2 (l[i]?.getD 0) := by
  unfold eightSlots
  congr 1
  funext i
  rcases l[i]? with _ | x <;> rfl

theorem remaining_eq (now : Nat) (e : Option Nat) : remaining now e = e.elim 0 (· - now) := by
  cases e <;> rfl

/-- R163: a value within its bounds, as a lowest value above 0 and a highest are written. -/
theorem clampBetween_eq {lo hi n x : Nat} (hle : lo ≤ hi)
    (h : x = if n < lo then lo else if hi < n then hi else n) : clampBetween lo hi n = x := by
  unfold clampBetween
  split at h
  · omega
  · split at h <;> omega

theorem clampBetween_one {hi n x : Nat} (hle : 1 ≤ hi)
    (h : x = if n = 0 then 1 else if hi < n then hi else n) : clampBetween 1 hi n = x :=
  clampBetween_eq hle (by simpa only [Nat.lt_one_iff] using h)

theorem clampBetween_zero {hi n x : Nat} (h : x = if hi < n then hi else n) : clampBetween 0 hi n = x :=
  clampBetween_eq (Nat.zero_le hi) (by simpa only [Nat.not_lt_zero, if_false] using h)

/-- Settles O48: the seven bounds, and the record of a port. -/
theorem linkSettingRequests : Obligations.LinkSettingRequests := by
  unfold Obligations.LinkSettingRequests
  refine ⟨fun s m keep g hrun h1 h2 h3 h4 h5 h6 h7 => ?_, fun s m keep hrun => ⟨fun h => ?_, fun r g hlt hr hg =>
    ⟨r.lane.number, fun h => by rw [h]; rfl, fun h => by rw [h]; rfl, ?_⟩⟩⟩
  · have hstored : linkStored m = g := by
      unfold linkStored
      rw [clampBetween_one (by decide) h1, clampBetween_zero h2, clampBetween_zero h3,
        clampBetween_one (by decide) h4, clampBetween_one (by decide) h5, clampBetween_zero h6,
        clampBetween_eq (by decide) h7]
    refine answer_of_effect hrun ?_
    unfold linkTimingEffect
    rw [hstored, doneStatus_eq (p := g.debounceMs = num m 1 ∧ g.baseMs = num m 2 ∧ g.penaltyS = num m 3
      ∧ g.threshold = num m 4 ∧ g.windowS = num m 5 ∧ g.stormBudget = num m 6 ∧ g.recoveryMs = num m 7)]
    · rfl
    · rw [bne_eq_false_iff_eq]
      simp [LinkSettings.values, linkGiven]
  · exact answer_of_refusal (effect := linkReadEffect) hrun (if_pos h)
  · subst hr hg
    rw [← eightSlots_out2, ← remaining_eq, ← remaining_eq, ← remaining_eq]
    refine answer_of_effect (effect := linkReadEffect) hrun ?_
    unfold linkReadEffect
    rw [if_neg (Nat.not_le.mpr hlt)]
    dsimp only
    rw [List.append_assoc, List.append_assoc]
    rfl

end Sys2Proof.Proofs.LinkMonitor

/-! Pause control (08_lossless_class_and_pause_control.md): messages, timers, PAUSE_WRITE and PAUSE_READ. -/

namespace Sys2Proof.Proofs.Pause

open Sys2Proof Sys2Proof.Machine Sys2Proof.Safety Sys2Proof.Proofs.Outcomes Sys2Proof.Proofs.Ports
  Sys2Proof.Proofs.PortLaws Sys2Proof.Proofs.TenantRequests Sys2Proof.Proofs.StationRequests
  Sys2Proof.Proofs.FrameIntake Sys2Proof.Proofs.PathRequests Sys2Proof.Proofs.Admission
  Sys2Proof.Proofs.LinkMonitor

/-! ### The storm timer (R143) -/

section Storm
variable {s : State} {r : Port}

theorem stormSync_storm_of_running (hp : r.c2State = .paused) (hq : r.queues.c2 ≠ []) :
    (s.stormSync r).storm
      = some (r.storm.getD ⟨s.timebase, s.timebase + 10000 * (s.linkSettings.stormBudget + 1)⟩) := by
  unfold State.stormSync Port.stormSync
  rw [if_pos ⟨hp, hq⟩]
  rcases hx : r.storm with _ | x
  · rfl
  · exact hx

theorem stormSync_of_stopped (h : ¬(r.c2State = .paused ∧ r.queues.c2 ≠ [])) :
    s.stormSync r = { r with storm := none } := if_neg h

/-- R143: on a port whose timers are lawful the test changes nothing. -/
theorem stormSync_of_timed (h : portTimed r) : s.stormSync r = r := by
  obtain ⟨-, -, -, -, hstorm⟩ := h
  by_cases hrun : r.c2State = .paused ∧ r.queues.c2 ≠ []
  · obtain ⟨x, hx⟩ := Option.isSome_iff_exists.mp (hstorm.mpr hrun)
    rw [stormSync_eq, stormSync_storm_of_running hrun.1 hrun.2, hx]
    show { r with storm := some x } = r
    rw [← hx]
  · have hnone : r.storm = none := Option.not_isSome_iff_eq_none.mp (mt hstorm.mp hrun)
    rw [stormSync_of_stopped hrun, ← hnone]

end Storm

/-! ### A pause message received (R43, R140) -/

section Received
variable {s : State} {p : Nat} {bytes : List Byte}

theorem pauseByte_eq (d : Nat) {i : Nat} (h : i < bytes.length) : pauseByte d bytes i = bytes.getD i 0#8 := by
  unfold pauseByte
  rw [List.getD_eq_getElem _ _ h, List.getD_eq_getElem _ _ h]

theorem number_pauseClass (d : Nat) (h : 18 ≤ bytes.length) :
    (pauseClass d bytes).number = (bytes.getD 14 0#8).toNat % 4 := by
  unfold pauseClass
  rw [number_ofBits, pauseByte_eq d (by omega), BitVec.extractLsb'_toNat]
  rfl

theorem pauseClass_eq_c2 (d : Nat) (h : 18 ≤ bytes.length) :
    pauseClass d bytes = .c2 ↔ (bytes.getD 14 0#8).toNat % 4 = 2 := by
  rw [← number_pauseClass d h]
  cases pauseClass d bytes <;> simp [Cls.number]

theorem pauseDuration_eq (d : Nat) (h : 18 ≤ bytes.length) :
    pauseDuration d bytes = 256 * (bytes.getD 16 0#8).toNat + (bytes.getD 17 0#8).toNat := by
  unfold pauseDuration
  rw [pauseByte_eq d (by omega), pauseByte_eq d (by omega)]

theorem drawn_of_long (h : 18 ≤ bytes.length) : s.drawn (decide (bytes.length < 18)) = s := by
  rw [decide_eq_false (Nat.not_lt.mpr h)]
  rfl

/-- R140: the one case in which the message acts. -/
theorem pauseMessageReceived_eq (good : Bool) (h : 18 ≤ bytes.length) :
    pauseMessageReceived p good bytes s =
      if good = true ∧ isPauseMessage bytes = true ∧ (s.port p).link = .up
          ∧ (bytes.getD 14 0#8).toNat % 4 = 2 then
        s.setPort p (s.stormSync ((s.port p).pauseReceived
          (256 * (bytes.getD 16 0#8).toNat + (bytes.getD 17 0#8).toNat) s.timebase))
      else s := by
  unfold pauseMessageReceived
  simp only [drawn_of_long h, pauseClass_eq_c2 _ h, pauseDuration_eq _ h, Bool.and_eq_true, beq_iff_eq]
  by_cases hact : (good = true ∧ isPauseMessage bytes = true) ∧ (s.port p).link = .up
  · rw [if_pos hact]
    simp only [hact.1.1, hact.1.2, hact.2, true_and]
  · rw [if_neg hact, if_neg fun ⟨hgood, hmessage, hup, _⟩ => hact ⟨⟨hgood, hmessage⟩, hup⟩]

end Received

section Acts
variable {r : Port} {d now : Nat}

theorem pauseReceived_kept (h : r.c2State = .stalled ∨ r.c2State = .ready ∧ d = 0) :
    r.pauseReceived d now = r := by
  unfold Port.pauseReceived
  rcases h with h | ⟨h, rfl⟩
  · rw [h]
  · rw [h]
    rfl

theorem pauseReceived_starts (h : r.c2State ≠ .stalled) (hd : 0 < d) :
    r.pauseReceived d now = { r with c2State := .paused, pauseEnd := some (now + d) } := by
  have hne : d ≠ 0 := Nat.pos_iff_ne_zero.mp hd
  unfold Port.pauseReceived
  rcases hc : r.c2State with _ | _ | _
  · simp only [if_neg hne]
  · simp only [if_neg hne]
  · exact absurd hc h

theorem pauseReceived_ends (h : r.c2State = .paused) :
    r.pauseReceived 0 now = { r with c2State := .ready, pauseEnd := none } := by
  unfold Port.pauseReceived
  simp only [h, if_true]

end Acts

/-- R140: the port once its C2 queue is paused until a time. -/
def pausedPort (r : Port) (e : Nat) : Port := { r with c2State := .paused, pauseEnd := some e }

/-- R143: the pause starts a timer only over frames, and leaves one that runs. -/
theorem stormSync_pausedPort (s : State) (r : Port) (e : Nat) : (s.stormSync (pausedPort r e)).storm
    = if r.queues.c2 = [] then none
      else some (r.storm.getD ⟨s.timebase, s.timebase + 10000 * (s.linkSettings.stormBudget + 1)⟩) := by
  split
  · next hq =>
    rw [stormSync_of_stopped]
    exact fun hrun => hrun.2 hq
  · next hq => exact stormSync_storm_of_running (r := pausedPort r e) rfl hq

/-- Settles O41: the acts of a message by the queue's state, then the storm timer's test. -/
theorem aPauseMessageActsByTheQueueState : Obligations.APauseMessageActsByTheQueueState := by
  unfold Obligations.APauseMessageActsByTheQueueState
  intro s p good bytes r d hp hlen hr hd
  subst hr
  have hexec : exec (.pauseMessageReceived p good bytes) s = .next (pauseMessageReceived p good bytes s) :=
    atPort_of_lt _ _ hp
  rw [hexec, pauseMessageReceived_eq good hlen, ← hd]
  refine ⟨fun h => ?_, fun hgood hmessage hup hclass htimed => ?_⟩
  · refine congrArg Host.Outcome.next (if_neg fun ⟨hgood, hmessage, hup, hclass⟩ => ?_)
    rcases h with h | h | h | h
    · exact absurd hgood (by rw [h]; exact Bool.false_ne_true)
    · exact absurd hmessage (by rw [h]; exact Bool.false_ne_true)
    · exact h hup
    · exact h hclass
  · rw [if_pos ⟨hgood, hmessage, hup, hclass⟩]
    have hkept {d : Nat} (h : (s.port p).c2State = .stalled ∨ (s.port p).c2State = .ready ∧ d = 0) :
        s.stormSync ((s.port p).pauseReceived d s.timebase) = s.port p := by
      rw [pauseReceived_kept h, stormSync_of_timed htimed]
    refine ⟨_, (s.stormSync (pausedPort (s.port p) (s.timebase + d))).storm, rfl, rfl,
      fun q hq => port_setPort_other _ hq, fun h => ?_, fun h hzero => ?_,
      fun h hpos => ⟨?_, fun hq => ?_, fun y hy => ?_, fun hnone hq => ?_⟩, fun h hzero => ?_⟩
    · rw [port_setPort_same, hkept (.inl h)]
    · rw [port_setPort_same, hkept (.inr ⟨h, hzero⟩)]
    · rw [port_setPort_same, pauseReceived_starts h hpos]
      exact stormSync_eq _ _
    · rw [stormSync_pausedPort, if_pos hq]
    · have hq : (s.port p).queues.c2 ≠ [] := by
        obtain ⟨-, -, -, -, hstorm⟩ := htimed
        exact (hstorm.mp (by rw [hy]; rfl)).2
      rw [stormSync_pausedPort, if_neg hq, hy]
      rfl
    · rw [stormSync_pausedPort, if_neg hq, hnone]
      rfl
    · rw [port_setPort_same, hzero, pauseReceived_ends h, stormSync_of_stopped]
      exact fun hrun => nomatch hrun.1

/-! ### The threshold tests, the timers and the control messages (R135 to R141) -/

section Messages
variable (x : Control)

theorem pauseOnWire_length : (pauseOnWire x).length = 64 := rfl

/-- R189: the fields of a message on the wire. -/
theorem pauseOnWire_fields {d : Nat} (hd : x.duration = d) (hlt : d ≤ 65535) :
    frameField (pauseOnWire x) 0 6 = 0x01B7A4000001 ∧ frameField (pauseOnWire x) 6 6 = 0
      ∧ frameField (pauseOnWire x) 12 2 = 0xB7A5 ∧ frameField (pauseOnWire x) 14 2 = 0x0200
      ∧ frameField (pauseOnWire x) 16 2 = d := by
  have hdst : frameField (pauseOnWire x) 0 6 = 0x01B7A4000001 := by
    simp [frameField_six, frameByte, pauseOnWire, pauseBody]
  refine ⟨hdst, rfl, rfl, rfl, ?_⟩
  have hhigh : frameByte (pauseOnWire x) 16 = d / 256 % 256 := by rw [← hd]; rfl
  have hlow : frameByte (pauseOnWire x) 17 = d % 256 := by rw [← hd]; rfl
  rw [frameField_two, hhigh, hlow]
  omega

theorem pauseOnWire_zeros {i : Nat} (hlo : 18 ≤ i) (hhi : i < 60) : (pauseOnWire x)[i]? = some 0#8 := by
  unfold pauseOnWire pauseBody
  rw [List.getElem?_append_left (by simpa using hhi), List.getElem?_append_right (by simpa using hlo),
    List.getElem?_replicate_of_lt (by simp; omega)]

end Messages

section Timers
variable {s : State} {p : Nat} {r : Port} {q : PauseSettings} {now : Nat}

theorem pauseOnTest_of (hf : r.ingress = .flowing) (hup : r.link = .up) (hon : q.pauseOn ≤ r.losslessCount) :
    r.pauseOnTest q now = { r with
      ingress := .pausing
      slot := some (.pause q.quantum)
      renewal := some (now + if q.quantum = 1 then 1 else q.quantum / 2) } := if_pos ⟨hf, hup, hon⟩

theorem pauseOffTest_of (hp : r.ingress = .pausing) (hoff : r.losslessCount ≤ q.pauseOff) :
    r.pauseOffTest q = { r with ingress := .flowing, slot := some .resume, renewal := none } := if_pos ⟨hp, hoff⟩

theorem pauseOffTest_of_not (h : r.ingress = .flowing ∨ q.pauseOff < r.losslessCount) :
    r.pauseOffTest q = r := by
  refine if_neg fun ⟨hp, hoff⟩ => ?_
  rcases h with h | h
  · rw [hp] at h
    cases h
  · omega

end Timers

/-- Settles O42: the bytes on the wire, the two tests, and the four timed events. -/
theorem pauseTimersAndMessagesTakeTheirTurn : Obligations.PauseTimersAndMessagesTakeTheirTurn := by
  unfold Obligations.PauseTimersAndMessagesTakeTheirTurn
  refine ⟨fun r x d ht hd hx => ?_, fun r q now => ⟨pauseOnTest_of, pauseOnTest_of_not, pauseOffTest_of,
    pauseOffTest_of_not⟩, fun s p r hp hr => ⟨fun x hi hx hle => ?_, fun x ht hup hx => ?_, fun x ht => ?_,
    fun x hc hx hle => ?_⟩⟩
  · have hduration : x.duration = d := by
      rcases hx with rfl | ⟨rfl, rfl⟩
      · rfl
      · rfl
    have hfields := pauseOnWire_fields x hduration hd
    obtain ⟨hdst, hsrc, htype, hclass, htime⟩ := hfields
    refine ⟨pauseOnWire x, ?_, pauseOnWire_length x, hdst, hsrc, htype, hclass, htime,
      fun i hlo hhi => pauseOnWire_zeros x hlo hhi⟩
    unfold Port.onWire
    rw [ht]
  · subst hr
    have hdue : (s.port p).renewalDue s.timebase = true := by
      unfold Port.renewalDue
      rw [hi, reached_of_some hx hle]
      rfl
    show atPort p (renewalExpiry p) s = _
    rw [atPort_of_lt _ _ hp, renewalExpiry, if_pos hdue]
    rfl
  · subst hr
    have hdue : (s.port p).controlDue = true := by
      unfold Port.controlDue
      rw [ht, hup, hx]
      rfl
    show atPort p (controlMessageSend p) s = _
    rw [atPort_of_lt _ _ hp, controlMessageSend]
    rw [if_pos hdue, hx]
  · subst hr
    show atPort p (controlMessageEnd p) s = _
    rw [atPort_of_lt _ _ hp, controlMessageEnd]
    rw [ht]
  · subst hr
    have hdue : (s.port p).pauseDue s.timebase = true := by
      unfold Port.pauseDue
      rw [hc, reached_of_some hx hle]
      rfl
    show atPort p (pauseExpiry p) s = _
    rw [atPort_of_lt _ _ hp, pauseExpiry, if_pos hdue, stormSync_of_stopped]
    exact fun hrun => nomatch hrun.1

/-! ### PAUSE_WRITE and PAUSE_READ (R148, R149) -/

section Requests
variable {s : State} {m : Message} {k : PortKind} {n : Nat}

theorem portKindOf_eq_some : portKindOf n = some k ↔ n = 0 ∧ k = .downlink ∨ n = 1 ∧ k = .uplink := by
  unfold portKindOf
  split
  · cases k <;> simp
  · cases k <;> simp
  · next h0 h1 => simp [show n ≠ 0 from h0, show n ≠ 1 from h1]

theorem portKindOf_eq_none (h : 2 ≤ n) : portKindOf n = none := by
  unfold portKindOf
  split
  · omega
  · omega
  · rfl

theorem clampPauseOn_eq (n : Nat) :
    clampPauseOn n = if n = 0 then 1 else if 98304 < n then 98304 else n := by
  unfold clampPauseOn
  split
  · rfl
  · split <;> omega

theorem clampPauseOn_pos (n : Nat) : 0 < clampPauseOn n := by
  unfold clampPauseOn
  split <;> omega

/-- R148: a clamp applied exactly when a value stored is not the one given. -/
theorem pauseClamped_eq_false (on off quantum : Nat) : pauseClamped on off quantum = false
    ↔ (pauseStored on off quantum).pauseOn = on ∧ (pauseStored on off quantum).pauseOff = off
      ∧ (pauseStored on off quantum).quantum = quantum := by
  have hpos := clampPauseOn_pos on
  have hoff : ¬ clampPauseOn on ≤ off ↔ (if clampPauseOn on ≤ off then clampPauseOn on / 2 else off) = off := by
    split <;> omega
  have hquantum : quantum ≠ 0 ↔ (if quantum = 0 then 1 else quantum) = quantum := by
    split <;> omega
  unfold pauseClamped
  rw [Bool.or_eq_false_iff, Bool.or_eq_false_iff, bne_eq_false_iff_eq, decide_eq_false_iff_not,
    beq_eq_false_iff_ne, hoff, hquantum, and_assoc]
  rfl

/-- R148: the state in which the ports of the kind are tested, once the settings are stored. -/
theorem pauseWriteEffect_of (hk : portKindOf (num m 1) = some k) (h : num m 4 ≤ 65535) {q : PauseSettings}
    (hq : pauseStored (num m 2) (num m 3) (num m 4) = q) :
    pauseWriteEffect m s = ⟨if q.pauseOn = num m 2 ∧ q.pauseOff = num m 3 ∧ q.quantum = num m 4
        then .done else .doneClamped, [out q.pauseOn, out q.pauseOff, out q.quantum],
      (portsOfKind k).foldl retestPort { s with pauseSettings := s.pauseSettings.set k q }⟩ := by
  subst hq
  obtain ⟨hwide, hfield⟩ := field16_of_narrow s.draws h
  unfold pauseWriteEffect
  rw [hk]
  dsimp only
  rw [hfield, hwide, doneStatus_eq (pauseClamped_eq_false _ _ _)]
  rfl

/-- R148: what the tests leave at each port. -/
theorem retested_port (q : PauseSettings) (p : Nat) :
    ((portsOfKind k).foldl retestPort { s with pauseSettings := s.pauseSettings.set k q }).port p
      = if p < 40 ∧ kindOfPort p = k then retestedPort q s.timebase (s.port p) else s.port p := by
  rw [retestPorts_port _ (portsOfKind_nodup k)]
  by_cases h : p < 40 ∧ kindOfPort p = k
  · rw [if_pos (mem_portsOfKind.mpr h), if_pos h]
    have hpause : State.pauseOf { s with pauseSettings := s.pauseSettings.set k q } p = q := by
      show (s.pauseSettings.set k q).get (kindOfPort p) = q
      rw [PerKind.get_set, if_pos h.2]
    rw [hpause]
    rfl
  · rw [if_neg (mt mem_portsOfKind.mp h), if_neg h]
    rfl

theorem retestedPort_flowing {r : Port} {q : PauseSettings} {now : Nat} (h : r.ingress = .flowing) :
    retestedPort q now r = r.pauseOnTest q now := by
  unfold retestedPort
  rw [h]

theorem retestedPort_pausing {r : Port} {q : PauseSettings} {now : Nat} (h : r.ingress = .pausing) :
    retestedPort q now r = r.pauseOffTest q := by
  unfold retestedPort
  rw [h]

theorem stormWords_eq (now : Nat) (x : Option StormTimer) : stormWords now x
    = [out (x.elim 0 fun x => now - x.start), out (x.elim 0 fun x => x.expiry - now)] := by
  cases x <;> rfl

theorem remainingPause_c2 (s : State) (p : Nat) : s.remainingPause p .c2
    = if (s.port p).c2State = .paused then (s.port p).pauseEnd.elim 0 (· - s.timebase) else 0 := by
  rw [← remaining_eq]
  rfl

end Requests

/-- Settles O44: the clamps, the tests of the kind's ports, and the record of a port. -/
theorem pauseRequestsWriteAndRead : Obligations.PauseRequestsWriteAndRead := by
  unfold Obligations.PauseRequestsWriteAndRead
  refine ⟨fun s m keep hrun hnarrow => ⟨fun h => ?_, fun k hk => ?_⟩,
    fun s m keep hrun => ⟨fun h => ?_, fun p r q hm hp hr hq => ?_⟩⟩
  · refine answer_of_refusal (effect := pauseWriteEffect) hrun ?_
    unfold pauseWriteEffect
    rw [portKindOf_eq_none h]
  · refine ⟨pauseStored (num m 2) (num m 3) (num m 4), _, clampPauseOn_eq _, rfl, rfl,
      answer_of_effect hrun (pauseWriteEffect_of (portKindOf_eq_some.mpr hk) hnarrow rfl),
      (retestPorts_eq _).trans rfl, fun p hp hkind hf => ?_, fun p hp hkind hf => ?_, fun p h => ?_⟩
    · rw [retested_port, if_pos ⟨hp, hkind⟩, retestedPort_flowing hf]
    · rw [retested_port, if_pos ⟨hp, hkind⟩, retestedPort_pausing hf]
    · rw [retested_port, if_neg fun ⟨hp, hkind⟩ => h.elim (fun h => by omega) fun h => h hkind]
  · exact answer_of_refusal (effect := pauseReadEffect) hrun (if_pos h)
  · subst hm hr hq
    refine answer_of_effect (effect := pauseReadEffect) hrun ?_
    unfold pauseReadEffect
    rw [if_neg (Nat.not_le.mpr hp)]
    dsimp only
    rw [stormWords_eq, remainingPause_c2, remaining_eq, remaining_eq, List.append_assoc, List.append_assoc]
    rfl

end Sys2Proof.Proofs.Pause

/-! The profile, policy and queue requests (01_tenant_records_and_contracts.md 1.8,
07_shared_buffer_and_egress_queues.md 7.3 and 7.8). -/

namespace Sys2Proof.Proofs.Settings

open Sys2Proof Sys2Proof.Machine Sys2Proof.Safety Sys2Proof.Proofs.Outcomes
  Sys2Proof.Proofs.TenantRequests Sys2Proof.Proofs.StationRequests Sys2Proof.Proofs.FrameIntake
  Sys2Proof.Proofs.PathRequests Sys2Proof.Proofs.Admission Sys2Proof.Proofs.LinkMonitor Sys2Proof.Proofs.Pause

/-! ### PROFILE_WRITE and PROFILE_READ (R20, R21, R23) -/

section Profiles
variable {s : State} {m : Message}

/-- R21: the multiplier stored is the largest allowed one not above the one given, 0 raised to 1. -/
theorem clampMultiplier_spec (n : Nat) : clampMultiplier n ∈ [1, 4, 8, 16, 32]
    ∧ clampMultiplier n ≤ max 1 n ∧ ∀ x ∈ [1, 4, 8, 16, 32], x ≤ n → x ≤ clampMultiplier n := by
  simp only [List.mem_cons, List.not_mem_nil, or_false]
  unfold clampMultiplier
  split
  · exact ⟨.inl rfl, by omega, fun x _ _ => by omega⟩
  split
  · exact ⟨.inr (.inl rfl), by omega, fun x _ _ => by omega⟩
  split
  · exact ⟨.inr (.inr (.inl rfl)), by omega, fun x _ _ => by omega⟩
  split
  · exact ⟨.inr (.inr (.inr (.inl rfl))), by omega, fun x _ _ => by omega⟩
  · exact ⟨.inr (.inr (.inr (.inr rfl))), by omega, fun x _ _ => by omega⟩

theorem clampTarget_eq (c target : Cls) : clampTarget c target
    = if c = .c3 then .c3 else if target.number ≤ c.number then target else c := by
  unfold clampTarget
  by_cases h : target.number ≤ c.number
  · rw [if_pos h, if_neg (Nat.not_lt.mpr h)]
  · rw [if_neg h, if_pos (Nat.not_le.mp h)]

theorem clampDemotion_get (d : PerClass Cls) (c : Cls) :
    (clampDemotion d).get c = clampTarget c (d.get c) := by cases c <;> rfl

theorem demotionOf_get (w : Word) (c : Cls) :
    ((demotionOf w).get c).number = w.toNat / 4 ^ c.number % 4 := by
  have hfield (k : Nat) : (Cls.ofBits (w.extractLsb' k 2)).number = w.toNat / 2 ^ k % 4 := by
    rw [number_ofBits, BitVec.extractLsb'_toNat, Nat.shiftRight_eq_div_pow]
  cases c
  case c0 => exact hfield 0
  case c1 => exact hfield 2
  case c2 => exact hfield 4
  case c3 => exact hfield 6

theorem profileClamped_eq_false (d : Nat) : profileClamped m = false
    ↔ (profileStored d m).multiplier = num m 6 ∧ (profileStored d m).surcharge = num m 8
      ∧ (profileStored d m).demotion = demotionOf (word m 10) := by
  unfold profileClamped
  rw [Bool.or_eq_false_iff, Bool.or_eq_false_iff, bne_eq_false_iff_eq, bne_eq_false_iff_eq,
    bne_eq_false_iff_eq, and_assoc]
  rfl

theorem profileWriteEffect_of (h : num m 1 < 16) (h2 : num m 2 ≤ 65535) (h3 : num m 3 ≤ 65535)
    (h4 : num m 4 ≤ 65535) (h5 : num m 5 ≤ 65535) {r : Profile} (hr : profileStored s.draws m = r) :
    profileWriteEffect m s = ⟨if r.multiplier = num m 6 ∧ r.surcharge = num m 8
        ∧ r.demotion = demotionOf (word m 10) then .done else .doneClamped,
      profileWords r, s.setProfile (num m 1) r⟩ := by
  subst hr
  have hwide {i : Nat} (hi : num m i ≤ 65535) := (field16_of_narrow s.draws hi).1
  unfold profileWriteEffect
  rw [if_neg (Nat.not_le.mpr h)]
  dsimp only
  rw [hwide h2, hwide h3, hwide h4, hwide h5, doneStatus_eq (profileClamped_eq_false s.draws)]
  rfl

theorem profileStored_rates (h2 : num m 2 ≤ 65535) (h3 : num m 3 ≤ 65535) (h4 : num m 4 ≤ 65535)
    (h5 : num m 5 ≤ 65535) (d : Nat) :
    (profileStored d m).rates = ⟨num m 2, num m 3, num m 4, num m 5⟩ := by
  have hfield {i : Nat} (hi : num m i ≤ 65535) := (field16_of_narrow d hi).2
  unfold profileStored
  rw [hfield h2, hfield h3, hfield h4, hfield h5]

end Profiles

/-- Settles O18: the profile stored field by field, and the profile as it is returned. -/
theorem profileRequestsStoreAndReturn : Obligations.ProfileRequestsStoreAndReturn := by
  unfold Obligations.ProfileRequestsStoreAndReturn
  refine ⟨fun s m keep hrun => ⟨fun h => ?_, fun h h2 h3 h4 h5 => ?_⟩,
    fun s m keep hrun => ⟨fun h => ?_, fun h r hr => ?_⟩, demotionOf_get, fun r => rfl⟩
  · exact answer_of_refusal (effect := profileWriteEffect) hrun (if_pos h)
  · obtain ⟨hallowed, hle, hlargest⟩ := clampMultiplier_spec (num m 6)
    refine ⟨profileStored s.draws m, profileStored_rates h2 h3 h4 h5 _, hallowed, hle, hlargest, rfl, rfl, rfl,
      rfl, rfl, fun c => ?_, answer_of_effect hrun (profileWriteEffect_of h h2 h3 h4 h5 rfl)⟩
    exact (clampDemotion_get _ c).trans (clampTarget_eq c _)
  · exact answer_of_refusal (effect := profileReadEffect) hrun (if_pos h)
  · subst hr
    exact answer_of_effect (effect := profileReadEffect) hrun (if_neg (Nat.not_le.mpr h))

/-! ### POLICY_WRITE (R122, R123) -/

section Policies
variable {s : State} {m : Message} {k : PortKind} {c : Cls} {n : Nat}

theorem ofNumber_eq_some : Cls.ofNumber n = some c ↔ n = c.number := by
  unfold Cls.ofNumber
  split
  · cases c <;> simp [Cls.number]
  · cases c <;> simp [Cls.number]
  · cases c <;> simp [Cls.number]
  · cases c <;> simp [Cls.number]
  · next h0 h1 h2 h3 =>
    cases c
    case c0 => exact iff_of_false (nomatch ·) h0
    case c1 => exact iff_of_false (nomatch ·) h1
    case c2 => exact iff_of_false (nomatch ·) h2
    case c3 => exact iff_of_false (nomatch ·) h3

theorem ofNumber_eq_none (h : 4 ≤ n) : Cls.ofNumber n = none := by
  rw [Option.eq_none_iff_forall_ne_some]
  intro c hc
  have hn := ofNumber_eq_some.mp hc
  have hlt : c.number < 4 := by cases c <;> decide
  omega

theorem holdsDrop_iff : holdsDrop c = true ↔ c ≠ .c2 := bne_iff_ne

theorem holdsResteer_iff : holdsResteer k = true ↔ k = .uplink := beq_iff_eq

theorem holdsThrottle_iff : holdsThrottle c = true ↔ c = .c0 := beq_iff_eq

theorem policyClamped_iff (mark drop resteer throttle : Nat) : policyClamped k c mark drop resteer throttle = true
    ↔ 98304 < mark ∨ c ≠ .c2 ∧ 98304 < drop ∨ k = .uplink ∧ 98304 < resteer ∨ c = .c0 ∧ 98304 < throttle := by
  unfold policyClamped
  simp only [Bool.or_eq_true, Bool.and_eq_true, decide_eq_true_iff, holdsDrop_iff, holdsResteer_iff,
    holdsThrottle_iff, or_assoc]

theorem policyWords_eq (r : Policy) (k : PortKind) (c : Cls) : policyWords r k c
    = [out r.mark, if c = .c2 then 0#32 else out r.drop, if k = .uplink then out r.resteer else 0#32,
      if c = .c0 then out r.throttle else 0#32] := by
  unfold policyWords
  simp only [holdsDrop_iff, holdsResteer_iff, holdsThrottle_iff, ite_not]

theorem policyWriteEffect_of (hk : portKindOf (num m 1) = some k) (hc : Cls.ofNumber (num m 2) = some c)
    {r : Policy} (hr : policyWritten (s.policy k c) k c (num m 3) (num m 4) (num m 5) (num m 6) = r) :
    policyWriteEffect m s = ⟨if 98304 < num m 3 ∨ c ≠ .c2 ∧ 98304 < num m 4 ∨ k = .uplink ∧ 98304 < num m 5
          ∨ c = .c0 ∧ 98304 < num m 6 then .doneClamped else .done, policyWords r k c, s.setPolicy k c r⟩ := by
  subst hr
  unfold policyWriteEffect
  rw [hk, hc]
  dsimp only
  unfold doneStatus
  simp only [policyClamped_iff]

theorem policyWriteEffect_of_malformed (h : 2 ≤ num m 1 ∨ 4 ≤ num m 2) :
    policyWriteEffect m s = refuseWith .malformed s := by
  unfold policyWriteEffect
  rcases h with h | h
  · rw [portKindOf_eq_none h]
  · rw [ofNumber_eq_none h]
    rcases portKindOf (num m 1) with _ | _ <;> rfl

end Policies

/-! ### QUEUE_READ (R132) -/

section Queues
variable {s : State} {m : Message} {c : Cls} {p : Nat}

theorem queueReadEffect_of_malformed (h : 40 ≤ num m 1 ∨ 4 ≤ num m 2) :
    queueReadEffect m s = refuseWith .malformed s := by
  unfold queueReadEffect
  rcases h with h | h
  · rcases Cls.ofNumber (num m 2) with _ | c
    · rfl
    · exact if_pos h
  · rw [ofNumber_eq_none h]

/-- R132: the words of the frame in transmission, zeros without one (log entry 34). -/
def sendingWords : Option QFrame → List Word
  | some f => [outFlag true, out f.cells, out f.tenant]
  | none => [outFlag false, 0#32, 0#32]

theorem stateOf_number (r : Port) (c : Cls) :
    (r.stateOf c).number = if c = .c2 then r.c2State.number else 0 := by cases c <;> rfl

theorem remainingPause_paused (hc : c = .c2) (hp : (s.port p).c2State = .paused) {x : Nat}
    (hx : (s.port p).pauseEnd = some x) : s.remainingPause p c = x - s.timebase := by
  subst hc
  rw [remainingPause_c2, if_pos hp, hx]
  rfl

theorem remainingPause_of_not (h : c ≠ .c2 ∨ (s.port p).c2State ≠ .paused) : s.remainingPause p c = 0 := by
  refine if_neg fun hpaused => ?_
  cases c
  case c0 => cases hpaused
  case c1 => cases hpaused
  case c2 => exact h.elim (fun h => h rfl) fun h => h hpaused
  case c3 => cases hpaused

theorem sending_some {f : QFrame} {rest : List QFrame} (ht : (s.port p).transmitter = .frame c)
    (hq : s.queue p c = f :: rest) : (s.port p).sending c = some f := by
  unfold Port.sending
  rw [if_pos ht]
  exact congrArg List.head? hq

theorem sending_none (ht : (s.port p).transmitter ≠ .frame c) : (s.port p).sending c = none := if_neg ht

/-- The re-steer threshold is an uplink's. -/
theorem kindOfPort_uplink : kindOfPort p = .uplink ↔ 32 ≤ p := by
  rw [← Nat.not_lt, ← kindOfPort_iff]
  cases kindOfPort p <;> simp

theorem queueReadEffect_of (hp : num m 1 = p) (hlt : p < 40) (hc : num m 2 = c.number) {pol : Policy}
    (hpol : s.policy (kindOfPort p) c = pol) : queueReadEffect m s = ⟨.done,
      [out (cellsOf (s.queue p c)), out (s.queue p c).length,
          out (if c = .c2 then (s.port p).c2State.number else 0)]
        ++ [out (s.remainingPause p c)] ++ sendingWords ((s.port p).sending c)
        ++ [out (s.port p).rotation.val, out pol.mark, if c = .c2 then 0#32 else out pol.drop,
          if 32 ≤ p then out pol.resteer else 0#32, if c = .c0 then out pol.throttle else 0#32,
          out s.freeCount], s⟩ := by
  subst hp hpol
  unfold queueReadEffect
  rw [ofNumber_eq_some.mpr hc]
  dsimp only
  rw [if_neg (Nat.not_le.mpr hlt), policyWords_eq, stateOf_number]
  simp only [kindOfPort_uplink]
  rcases (s.port (num m 1)).sending c with _ | f
  · rfl
  · rfl

end Queues

/-- Settles O40: the fields that a record holds, and the words of a queue. -/
theorem policyAndQueueRequests : Obligations.PolicyAndQueueRequests := by
  unfold Obligations.PolicyAndQueueRequests
  refine ⟨fun s m keep hrun => ⟨fun h => ?_, fun k c hk hc => ?_⟩,
    fun s m keep hrun => ⟨fun h => ?_, fun p c r pol hm hp hc hr hpol => ?_⟩⟩
  · exact answer_of_refusal hrun (policyWriteEffect_of_malformed h)
  · refine ⟨policyWritten (s.policy k c) k c (num m 3) (num m 4) (num m 5) (num m 6), rfl, ?_, ?_, ?_, ?_⟩
    · show (if holdsDrop c = true then _ else _) = _
      simp only [holdsDrop_iff, ite_not]
      rfl
    · show (if holdsResteer k = true then _ else _) = _
      simp only [holdsResteer_iff]
      rfl
    · show (if holdsThrottle c = true then _ else _) = _
      simp only [holdsThrottle_iff]
      rfl
    · rw [← policyWords_eq]
      exact answer_of_effect hrun
        (policyWriteEffect_of (portKindOf_eq_some.mpr hk) (ofNumber_eq_some.mpr hc) rfl)
  · exact answer_of_refusal hrun (queueReadEffect_of_malformed h)
  · subst hr
    refine ⟨[out (s.remainingPause p c)], sendingWords ((s.port p).sending c), fun hc2 hpaused x hx => ?_,
      fun h => ?_, fun f rest ht hq => ?_, fun ht => ?_,
      answer_of_effect hrun (queueReadEffect_of hm hp hc hpol.symm)⟩
    · rw [remainingPause_paused hc2 hpaused hx]
    · rw [remainingPause_of_not h]
      rfl
    · rw [sending_some ht hq]
      rfl
    · rw [sending_none ht]
      rfl

end Sys2Proof.Proofs.Settings
